-- ==== Sys2Proof/Word.lean ====
section
/-! DEFINITION. Word.lean: the widths of LCRE's values (spec 00_scope.md R5, R7). -/

namespace Sys2Proof

/-- One register, and the DATA group of a transaction word: 8 bits (R7). -/
abbrev Byte := BitVec 8

/-- One host transaction word: 16 bits (R7, R90). -/
abbrev Word16 := BitVec 16

/-- A host register address: 7 bits (R7, R44). -/
abbrev Addr := BitVec 7

/-- One row of the voxel buffer: 4 bits, bit x for voxel x (R22, R23). -/
abbrev Row := BitVec 4

/-- A coordinate x, y or z, and the layer index: 2 bits, a value in [0,3] (R5, R25, R95, R96). -/
abbrev Coord := BitVec 2

end Sys2Proof
end

