-- ==== Sys2Proof/Syntax.lean ====
section
/-! DEFINITION. Syntax.lean: the instructions of LCRE, the host transactions of spec
30_encoding.md R98, one constructor per row of spec/opcode_table.json. -/

namespace Sys2Proof

/-- A host transaction. Every constructor carries the word's DATA group (R90) whole, the bits its
rule ignores too (R93, R97), so that a term stands for exactly one word; which of those bits an
instruction keeps is said by its meaning. The reserved rows carry the whole ADDR group. -/
inductive Instr where
  | rowRd (z y : Coord) (data : Byte)          -- ROW_RD, R120
  | rowWr (z y : Coord) (data : Byte)          -- ROW_WR, R121
  | ctrlRd (data : Byte)                       -- CTRL_RD, R198
  | ctrlWr (data : Byte)                       -- CTRL_WR, R199
  | statusRd (data : Byte)                     -- STATUS_RD, R220
  | statusWr (data : Byte)                     -- STATUS_WR, R221
  | layerRd (data : Byte)                      -- LAYER_RD, R200
  | layerWr (data : Byte)                      -- LAYER_WR, R203
  | tickcntRd (data : Byte)                    -- TICKCNT_RD, R201
  | tickcntWr (data : Byte)                    -- TICKCNT_WR, R206
  | frametakeRd (data : Byte)                  -- FRAMETAKE_RD, R222
  | frametakeWr (data : Byte)                  -- FRAMETAKE_WR, R223
  | framedivRd (data : Byte)                   -- FRAMEDIV_RD, R202
  | framedivWr (data : Byte)                   -- FRAMEDIV_WR, R207
  | rsvdRd16 (addr : Addr) (data : Byte)       -- RSVD_RD, R204: 0x16-0x17
  | rsvdRd18 (addr : Addr) (data : Byte)       -- RSVD_RD, R204: 0x18-0x1F
  | rsvdRd20 (addr : Addr) (data : Byte)       -- RSVD_RD, R204: 0x20-0x3F
  | rsvdWr16 (addr : Addr) (data : Byte)       -- RSVD_WR, R205: 0x16-0x17
  | rsvdWr18 (addr : Addr) (data : Byte)       -- RSVD_WR, R205: 0x18-0x1F
  | rsvdWr20 (addr : Addr) (data : Byte)       -- RSVD_WR, R205: 0x20-0x3F
  | voxRd (z y x : Coord) (data : Byte)        -- VOX_RD, R122
  | voxWr (z y x : Coord) (data : Byte)        -- VOX_WR, R123
  deriving DecidableEq, Repr

/-- What a 7-bit address names (R65, R94): one constructor per row of R94's table. -/
inductive RegAddr where
  | row (z y : Coord)
  | ctrl
  | status
  | layer
  | tickcnt
  | frametake
  | framediv
  | rsvd16 (addr : Addr)
  | rsvd18 (addr : Addr)
  | rsvd20 (addr : Addr)
  | vox (z y x : Coord)
  deriving DecidableEq, Repr

end Sys2Proof
end

