-- ==== Sys2Proof/WellFormed.lean ====
section
/-! DEFINITION. WellFormed.lean: which terms of `Instr` have a word. Coordinates and DATA are in
range by their types (R95, R96: "No value is out of range"); what is checked is that the address a
reserved row carries is one of that row's addresses (R94, R98). -/

namespace Sys2Proof

/-- `addr` matches `001 011x` (R94). -/
def inRsvd16 (addr : Addr) : Bool := addr &&& 0x7E#7 == 0x16#7

/-- `addr` matches `001 1xxx` (R94). -/
def inRsvd18 (addr : Addr) : Bool := addr &&& 0x78#7 == 0x18#7

/-- `addr` matches `01x xxxx` (R94). -/
def inRsvd20 (addr : Addr) : Bool := addr &&& 0x60#7 == 0x20#7

/-- The instruction is the reading of some word (R98). -/
def Instr.wf : Instr → Bool
  | .rowRd _ _ _ => true
  | .rowWr _ _ _ => true
  | .ctrlRd _ => true
  | .ctrlWr _ => true
  | .statusRd _ => true
  | .statusWr _ => true
  | .layerRd _ => true
  | .layerWr _ => true
  | .tickcntRd _ => true
  | .tickcntWr _ => true
  | .frametakeRd _ => true
  | .frametakeWr _ => true
  | .framedivRd _ => true
  | .framedivWr _ => true
  | .rsvdRd16 addr _ => inRsvd16 addr
  | .rsvdRd18 addr _ => inRsvd18 addr
  | .rsvdRd20 addr _ => inRsvd20 addr
  | .rsvdWr16 addr _ => inRsvd16 addr
  | .rsvdWr18 addr _ => inRsvd18 addr
  | .rsvdWr20 addr _ => inRsvd20 addr
  | .voxRd _ _ _ _ => true
  | .voxWr _ _ _ _ => true

end Sys2Proof
end

