-- ==== Sys2Proof/Decode.lean ====
section
/-! DEFINITION. Decode.lean: from a transaction word to an instruction and back (spec
30_encoding.md R90-R101). Decoding is total: LCRE has no illegal encoding (R99), so there is no
word to reject. The match/mask table of R98 stands beside the decoder, which is written from the
address decode of R94; that the two agree is a statement of this row. -/

namespace Sys2Proof

/-! ### The groups of a word (R90) -/

/-- `W`, bit 15: true for a write (R90, R91). -/
def wordWrite (w : Word16) : Bool := w.getLsbD 15

/-- `ADDR`, bits 14:8 (R90, R92). -/
def wordAddr (w : Word16) : Addr := w.extractLsb' 8 7

/-- `DATA`, bits 7:0 (R90, R93). -/
def wordData (w : Word16) : Byte := w.extractLsb' 0 8

/-- The word `{W, ADDR, DATA}` (R90). -/
def mkWord (write : Bool) (addr : Addr) (data : Byte) : Word16 :=
  BitVec.ofBool write ++ addr ++ data

/-! ### Addresses (R94-R96) -/

/-- The address decode of R94, row by row; the operand fields are those of R95 and R96. -/
def decodeAddr (a : Addr) : RegAddr :=
  if a.getLsbD 6 then .vox (a.extractLsb' 4 2) (a.extractLsb' 2 2) (a.extractLsb' 0 2)
  else if a.getLsbD 5 then .rsvd20 a
  else if !a.getLsbD 4 then .row (a.extractLsb' 2 2) (a.extractLsb' 0 2)
  else if a.getLsbD 3 then .rsvd18 a
  else if a.extractLsb' 0 3 = 0b000#3 then .ctrl
  else if a.extractLsb' 0 3 = 0b001#3 then .status
  else if a.extractLsb' 0 3 = 0b010#3 then .layer
  else if a.extractLsb' 0 3 = 0b011#3 then .tickcnt
  else if a.extractLsb' 0 3 = 0b100#3 then .frametake
  else if a.extractLsb' 0 3 = 0b101#3 then .framediv
  else .rsvd16 a

/-- The address of `ROW[z][y]`: `{000, z, y}` (R65, R95). -/
def rowAddr (z y : Coord) : Addr := 0b000#3 ++ z ++ y

/-- The address of `VOX[z][y][x]`: `{1, z, y, x}` (R65, R96). -/
def voxAddr (z y x : Coord) : Addr := 1#1 ++ z ++ y ++ x

/-! ### Decoding a word -/

/-- The read instruction at an address (`W` = 0). -/
def readInstr (data : Byte) : RegAddr → Instr
  | .row z y => .rowRd z y data
  | .ctrl => .ctrlRd data
  | .status => .statusRd data
  | .layer => .layerRd data
  | .tickcnt => .tickcntRd data
  | .frametake => .frametakeRd data
  | .framediv => .framedivRd data
  | .rsvd16 a => .rsvdRd16 a data
  | .rsvd18 a => .rsvdRd18 a data
  | .rsvd20 a => .rsvdRd20 a data
  | .vox z y x => .voxRd z y x data

/-- The write instruction at an address (`W` = 1). -/
def writeInstr (data : Byte) : RegAddr → Instr
  | .row z y => .rowWr z y data
  | .ctrl => .ctrlWr data
  | .status => .statusWr data
  | .layer => .layerWr data
  | .tickcnt => .tickcntWr data
  | .frametake => .frametakeWr data
  | .framediv => .framedivWr data
  | .rsvd16 a => .rsvdWr16 a data
  | .rsvd18 a => .rsvdWr18 a data
  | .rsvd20 a => .rsvdWr20 a data
  | .vox z y x => .voxWr z y x data

/-- The instruction of a word (R91, R94, R98). It reads the word alone, no state (R101). -/
def decode (w : Word16) : Instr :=
  if wordWrite w then writeInstr (wordData w) (decodeAddr (wordAddr w))
  else readInstr (wordData w) (decodeAddr (wordAddr w))

/-! ### Encoding (R98) -/

/-- The word of an instruction, written from R98's patterns. -/
def encode : Instr → Word16
  | .rowRd z y d => mkWord false (rowAddr z y) d
  | .rowWr z y d => mkWord true (rowAddr z y) d
  | .ctrlRd d => mkWord false 0b0010000#7 d
  | .ctrlWr d => mkWord true 0b0010000#7 d
  | .statusRd d => mkWord false 0b0010001#7 d
  | .statusWr d => mkWord true 0b0010001#7 d
  | .layerRd d => mkWord false 0b0010010#7 d
  | .layerWr d => mkWord true 0b0010010#7 d
  | .tickcntRd d => mkWord false 0b0010011#7 d
  | .tickcntWr d => mkWord true 0b0010011#7 d
  | .frametakeRd d => mkWord false 0b0010100#7 d
  | .frametakeWr d => mkWord true 0b0010100#7 d
  | .framedivRd d => mkWord false 0b0010101#7 d
  | .framedivWr d => mkWord true 0b0010101#7 d
  | .rsvdRd16 a d => mkWord false a d
  | .rsvdRd18 a d => mkWord false a d
  | .rsvdRd20 a d => mkWord false a d
  | .rsvdWr16 a d => mkWord true a d
  | .rsvdWr18 a d => mkWord true a d
  | .rsvdWr20 a d => mkWord true a d
  | .voxRd z y x d => mkWord false (voxAddr z y x) d
  | .voxWr z y x d => mkWord true (voxAddr z y x) d

/-! ### The match/mask table (R98, spec/opcode_table.json) -/

/-- One row of R98's table: a word `w` is the row's instruction when `w AND mask = match`. -/
structure OpcodeRow where
  mnemonic : String
  pattern : Word16
  mask : Word16
  deriving DecidableEq, Repr

/-- `(w AND mask) = match` (R98). -/
def OpcodeRow.selects (r : OpcodeRow) (w : Word16) : Bool := w &&& r.mask == r.pattern

/-- The row of R98's table an instruction belongs to. -/
def Instr.opcodeRow : Instr → OpcodeRow
  | .rowRd _ _ _ => ⟨"ROW_RD", 0x0000#16, 0xF000#16⟩
  | .rowWr _ _ _ => ⟨"ROW_WR", 0x8000#16, 0xF000#16⟩
  | .ctrlRd _ => ⟨"CTRL_RD", 0x1000#16, 0xFF00#16⟩
  | .ctrlWr _ => ⟨"CTRL_WR", 0x9000#16, 0xFF00#16⟩
  | .statusRd _ => ⟨"STATUS_RD", 0x1100#16, 0xFF00#16⟩
  | .statusWr _ => ⟨"STATUS_WR", 0x9100#16, 0xFF00#16⟩
  | .layerRd _ => ⟨"LAYER_RD", 0x1200#16, 0xFF00#16⟩
  | .layerWr _ => ⟨"LAYER_WR", 0x9200#16, 0xFF00#16⟩
  | .tickcntRd _ => ⟨"TICKCNT_RD", 0x1300#16, 0xFF00#16⟩
  | .tickcntWr _ => ⟨"TICKCNT_WR", 0x9300#16, 0xFF00#16⟩
  | .frametakeRd _ => ⟨"FRAMETAKE_RD", 0x1400#16, 0xFF00#16⟩
  | .frametakeWr _ => ⟨"FRAMETAKE_WR", 0x9400#16, 0xFF00#16⟩
  | .framedivRd _ => ⟨"FRAMEDIV_RD", 0x1500#16, 0xFF00#16⟩
  | .framedivWr _ => ⟨"FRAMEDIV_WR", 0x9500#16, 0xFF00#16⟩
  | .rsvdRd16 _ _ => ⟨"RSVD_RD", 0x1600#16, 0xFE00#16⟩
  | .rsvdRd18 _ _ => ⟨"RSVD_RD", 0x1800#16, 0xF800#16⟩
  | .rsvdRd20 _ _ => ⟨"RSVD_RD", 0x2000#16, 0xE000#16⟩
  | .rsvdWr16 _ _ => ⟨"RSVD_WR", 0x9600#16, 0xFE00#16⟩
  | .rsvdWr18 _ _ => ⟨"RSVD_WR", 0x9800#16, 0xF800#16⟩
  | .rsvdWr20 _ _ => ⟨"RSVD_WR", 0xA000#16, 0xE000#16⟩
  | .voxRd _ _ _ _ => ⟨"VOX_RD", 0x4000#16, 0xC000#16⟩
  | .voxWr _ _ _ _ => ⟨"VOX_WR", 0xC000#16, 0xC000#16⟩

/-- R98's rows with `W` = 0, in its order. -/
def readRows : List OpcodeRow :=
  [⟨"ROW_RD", 0x0000#16, 0xF000#16⟩, ⟨"CTRL_RD", 0x1000#16, 0xFF00#16⟩,
   ⟨"STATUS_RD", 0x1100#16, 0xFF00#16⟩, ⟨"LAYER_RD", 0x1200#16, 0xFF00#16⟩,
   ⟨"TICKCNT_RD", 0x1300#16, 0xFF00#16⟩, ⟨"FRAMETAKE_RD", 0x1400#16, 0xFF00#16⟩,
   ⟨"FRAMEDIV_RD", 0x1500#16, 0xFF00#16⟩, ⟨"RSVD_RD", 0x1600#16, 0xFE00#16⟩,
   ⟨"RSVD_RD", 0x1800#16, 0xF800#16⟩, ⟨"RSVD_RD", 0x2000#16, 0xE000#16⟩,
   ⟨"VOX_RD", 0x4000#16, 0xC000#16⟩]

/-- R98's rows with `W` = 1, in its order. -/
def writeRows : List OpcodeRow :=
  [⟨"ROW_WR", 0x8000#16, 0xF000#16⟩, ⟨"CTRL_WR", 0x9000#16, 0xFF00#16⟩,
   ⟨"STATUS_WR", 0x9100#16, 0xFF00#16⟩, ⟨"LAYER_WR", 0x9200#16, 0xFF00#16⟩,
   ⟨"TICKCNT_WR", 0x9300#16, 0xFF00#16⟩, ⟨"FRAMETAKE_WR", 0x9400#16, 0xFF00#16⟩,
   ⟨"FRAMEDIV_WR", 0x9500#16, 0xFF00#16⟩, ⟨"RSVD_WR", 0x9600#16, 0xFE00#16⟩,
   ⟨"RSVD_WR", 0x9800#16, 0xF800#16⟩, ⟨"RSVD_WR", 0xA000#16, 0xE000#16⟩,
   ⟨"VOX_WR", 0xC000#16, 0xC000#16⟩]

/-- R98's table. -/
def opcodeTable : List OpcodeRow := readRows ++ writeRows

/-! ### The host's reading of a table word -/

/-- The instruction the decoder reads from a word of `nbits` bits numbered as
spec/opcode_table.json numbers them, the bits above `nbits` being zero. A transaction is one
parallel 16-bit word (R60, R90): nothing longer is one, and no byte order arises. -/
def decodeTableWord (nbits w : Nat) : Option Instr :=
  if nbits ≤ 16 ∧ w < 2 ^ nbits then some (decode (BitVec.ofNat 16 w)) else none

end Sys2Proof
end

