-- ==== Sys2Proof/Config.lean ====
section
/-! DEFINITION. Config.lean: the named parameters of an LCRE (spec 00_scope.md R6,
93_implementation_defined.md). They are arguments of the model: a machine is built from a `Params`,
and the model holds for every one of them. A parameter the spec leaves OPEN has, in the standard
build, an opaque constant for its value, so that no proof can rest on it. -/

namespace Sys2Proof

/-- The named parameters of R6 that a rule depends on, as one machine has them. They are fixed when
the machine is built (R36, R202, R207); a state carries them and no event changes them (log
entry 7). -/
structure Params where
  /-- `FRAME_DIV`: ticks per frame boundary (R6, R36, R202). -/
  frameDiv : Byte
  /-- `WARMUP_FRAMES`: frame boundaries INIT waits for (R6, R228). Only the host's procedure reads
  it. -/
  warmupFrames : Nat
  /-- `INIT_PATTERN[z][y]`: the buffer's contents after reset (R6, R46, R296; 93 I1). -/
  initPattern : Vector (Vector Row 4) 4
  /-- `RESET_LAYER`: the layer index after reset (R6, R46; 93 I16). -/
  resetLayer : Coord
  /-- `LE_ACTIVE_HIGH`: physical polarity of the layer-enable pins (R6, R41, R175; 93 I15). -/
  leActiveHigh : Bool
  deriving DecidableEq, Repr

/-- The parameters are in range: FRAME_DIV is in 1..255 (R6); the upper bound is the register's
width. -/
def Params.legal (p : Params) : Prop := 1 ≤ p.frameDiv.toNat

/-- `INIT_PATTERN[z][y]`. -/
def Params.initRow (p : Params) (z y : Coord) : Row :=
  (p.initPattern[z.toNat]'(by have := z.isLt; omega))[y.toNat]'(by have := y.isLt; omega)

namespace Config

/-- The value of the OPEN parameter `INIT_PATTERN` in the standard build (R6, R46; log entry 1). It
has no body: a claim about a row that nothing has written since reset holds for every pattern. -/
opaque initPattern : Vector (Vector Row 4) 4

/-- The standard build: the value R6 gives each parameter to which it gives one. -/
def standard : Params where
  frameDiv := 24
  warmupFrames := 5
  initPattern := initPattern
  resetLayer := 0
  leActiveHigh := true

/-- `WIRING`: the physical LED column that each stage of each external chain feeds, an OPEN
parameter of the board (R158, 93 I14; log entry 2). `lineA` chooses the chain on `data_a` (true) or
the one on `data_b` (false). -/
opaque wiring : (lineA : Bool) → (stage : Fin 8) → Nat

end Config

end Sys2Proof
end

