-- ==== Sys2Proof/Machine/State.lean ====
section
/-! DEFINITION. Machine/State.lean: the state of LCRE (spec 10_state.md R20-R46), down to the pin
level (R42), with the inputs that reach it and the observations the spec defines on it; the reasons
a step can stop; and the state after reset. -/

namespace Sys2Proof.Machine

/-- The refresh scheduler's two states (R28, R190). -/
inductive Run where
  | idle
  | ticking
  deriving DecidableEq, Repr

/-- A pin event (R11): `LE(m)`, `DATA(a, b)`, `CLK_RISE`, `CLK_FALL`. -/
inductive PinEvent where
  | le (m : BitVec 4)
  | data (a b : Bool)
  | clkRise
  | clkFall
  deriving DecidableEq, Repr

/-- The levels of the driven output pins (R38), `le` as logical levels (R41). The `ind` and `irq`
pins are functions of `ind`, `frame` and `fie` (R39, R40) and are computed in Flags.lean. -/
structure Pins where
  dataA : Bool
  dataB : Bool
  sclk : Bool
  le : BitVec 4
  deriving DecidableEq, Repr

/-- Where the ENGINE is (R21, R42, R196). `quiet`: no tick is in progress (`busy` = 0).
`driving rest`: a tick's pin sequence is being driven (`busy` = 1) and `rest` is what is left of
it; with `rest` empty the counter update of R193 is left. -/
inductive Engine where
  | quiet
  | driving (rest : List PinEvent)
  deriving DecidableEq, Repr

/-- What arrives at LCRE's inputs in one step: the reset input, the `tick` strobe (R191, R252) and a
transaction issued on the host port (R90). Several may be present at once (R254, R255). -/
structure Slot where
  reset : Bool
  tick : Bool
  host : Option Word16
  deriving DecidableEq, Repr

/-- The state of LCRE. The first eight fields are the tuple of R20. -/
structure State where
  /-- The voxel buffer `buf[z][y]` (R22). -/
  buf : Vector (Vector Row 4) 4
  /-- The current layer index (R25). -/
  layer : Coord
  /-- The frame-tick counter (R26). -/
  tcnt : Byte
  /-- The FrameSignal (R27). -/
  frame : Bool
  /-- The scheduler state (R28). -/
  run : Run
  /-- The indicator bit (R29). -/
  ind : Bool
  /-- The frame-interrupt enable bit (R30). -/
  fie : Bool
  /-- The output levels after the last pin event (R38). -/
  pins : Pins
  /-- `busy`, with what is left of the tick in progress (R21, R42). -/
  engine : Engine
  /-- `tick_pending`: the one-deep latch of a strobe that came while `busy` (R42, R196). -/
  tickPending : Bool
  /-- The pin events of the tick in progress, or of the last one: the tick's output trace (R10,
  R11). An observation; nothing in the machine reads it. -/
  trace : List PinEvent
  /-- What the last transaction returned to the host: `some rdata` for a read, `none` for a write
  (R90). An observation; nothing in the machine reads it. -/
  rdata : Option Byte
  /-- The transactions issued on the host port and not performed yet, oldest first: the first is
  the one the port holds while `busy` (R197; log entry 5). -/
  port : List Word16
  /-- The inputs still to come, one slot a step: the model's stand-in for the environment (R12,
  R70; log entry 4). When it is empty nothing arrives. -/
  inputs : List Slot
  /-- The parameters this machine was built with (R6; log entry 7). No event changes them. -/
  params : Params
  deriving DecidableEq, Repr

/-- The reasons a step can fault: none. "no transaction, tick or reset has a fault outcome" (R250),
so the type has no constructor, and nothing can raise one (safe: there is nothing left out). -/
inductive Fault where
  deriving DecidableEq, Repr

/-- The reasons a step can be refused. -/
inductive Refusal where
  /-- Raised by `exec`'s arm of an instruction that has no meaning in this model yet (safe). No arm
  raises it: every instruction has its meaning. -/
  | notModelled (mnemonic : String)
  deriving DecidableEq, Repr

/-- The pin levels after reset: all low, every layer disabled (R46). -/
def Pins.reset : Pins := { dataA := false, dataB := false, sclk := false, le := 0b0000#4 }

/-- The state after RESET of a machine with the parameters `p` (R46, R290). `rdata`, `trace`, `port`
and `inputs` are empty: no transaction has been performed, no event driven, none issued (log
entries 3, 4, 5). -/
def State.resetWith (p : Params) : State where
  buf := p.initPattern
  layer := p.resetLayer
  tcnt := 0#8
  frame := false
  run := .idle
  ind := false
  fie := false
  pins := Pins.reset
  engine := .quiet
  tickPending := false
  trace := []
  rdata := none
  port := []
  inputs := []
  params := p

/-- The state after RESET of the standard build (R6, R46). -/
def State.reset : State := State.resetWith Config.standard

end Sys2Proof.Machine
end

