-- ==== Sys2Proof/Machine/Operands.lean ====
section
/-! DEFINITION. Machine/Operands.lean: the operand forms of the host transactions, the DATA bits each
write keeps (spec 30_encoding.md R97), and the bit primitives of 00_scope.md R9. -/

namespace Sys2Proof.Machine

/-! ### Bit primitives (R9) -/

/-- `onehot(L)`: the 4-bit value with only bit L set. -/
def onehot (l : Coord) : BitVec 4 := 1#4 <<< l.toNat

/-- `rev4(v)[i] = v[3-i]`. -/
def rev4 (v : BitVec 4) : BitVec 4 :=
  BitVec.ofBool (v.getLsbD 0) ++ BitVec.ofBool (v.getLsbD 1) ++ BitVec.ofBool (v.getLsbD 2) ++
    BitVec.ofBool (v.getLsbD 3)

/-- The row `r` with `r[x] <- b` (R123). -/
def setBit (r : Row) (x : Coord) (b : Bool) : Row :=
  (r &&& ~~~onehot x) ||| (if b then onehot x else 0#4)

/-- `zext_8` of one bit. -/
def zextBit (b : Bool) : Byte := (BitVec.ofBool b).setWidth 8

/-! ### The DATA bits a write keeps (R97) -/

/-- ROW_WR: `v = DATA[3:0]`; bits 7:4 are discarded (R121). -/
def rowValue (data : Byte) : Row := data.extractLsb' 0 4

/-- VOX_WR: `b = DATA[0]`; bits 7:1 are discarded (R123). -/
def voxValue (data : Byte) : Bool := data.getLsbD 0

/-- CTRL_WR: `ARM = DATA[0]` (R199). -/
def ctrlArm (data : Byte) : Bool := data.getLsbD 0

/-- CTRL_WR: `IND = DATA[1]` (R199). -/
def ctrlInd (data : Byte) : Bool := data.getLsbD 1

/-- CTRL_WR: `FIE = DATA[2]` (R199). -/
def ctrlFie (data : Byte) : Bool := data.getLsbD 2

end Sys2Proof.Machine
end

