-- ==== Sys2Proof/Machine/Flags.lean ====
section
/-! DEFINITION. Machine/Flags.lean: the flag-like values of LCRE and the registers and pins computed
from them (spec 10_state.md R31, R32, R39-R41, R45). -/

namespace Sys2Proof.Machine

/-- `run = Ticking`, as CTRL.ARM and STATUS.TICKING read it (R31, R32). -/
def State.ticking (s : State) : Bool := s.run == .ticking

/-- `busy`: a tick's pin sequence is being driven (R42). -/
def State.busy (s : State) : Bool := s.engine != .quiet

/-- The `irq` output: the level `frame AND fie` (R39, R225). -/
def State.irq (s : State) : Bool := s.frame && s.fie

/-- The `ind` output pin (R40). -/
def State.indPin (s : State) : Bool := s.ind

/-- The physical level of `le[z]`: `le[z]`, or `NOT le[z]` on a machine that is not active high
(R6, R41, R175). -/
def State.lePin (s : State) (z : Coord) : Bool :=
  if s.params.leActiveHigh then s.pins.le.getLsbD z.toNat else !s.pins.le.getLsbD z.toNat

/-- CTRL as it reads: `{00000, fie, ind, (run = Ticking)}` (R31, R198). -/
def State.ctrlByte (s : State) : Byte :=
  0#5 ++ BitVec.ofBool s.fie ++ BitVec.ofBool s.ind ++ BitVec.ofBool s.ticking

/-- STATUS as it reads: `{00000, (frame AND fie), (run = Ticking), frame}` (R32, R220). -/
def State.statusByte (s : State) : Byte :=
  0#5 ++ BitVec.ofBool s.irq ++ BitVec.ofBool s.ticking ++ BitVec.ofBool s.frame

/-- The tick that follows is a frame boundary: `c = FRAME_DIV` for `c = tcnt + 1`, a
natural-number sum (R193). -/
def isBoundary (frameDiv tcnt : Byte) : Bool := tcnt.toNat + 1 == frameDiv.toNat

/-- `tcnt` after a tick: 0 at a boundary, else `tcnt + 1` (R193). -/
def nextTcnt (frameDiv tcnt : Byte) : Byte :=
  if isBoundary frameDiv tcnt then 0#8 else BitVec.ofNat 8 (tcnt.toNat + 1)

end Sys2Proof.Machine
end

