-- ==== Sys2Proof/Machine/SerialDriver.lean ====
section
/-! DEFINITION. Machine/SerialDriver.lean: the pin events of a tick (spec 41_serial_driver.md,
42_layer_multiplexer.md R170). -/

namespace Sys2Proof.Machine

/-- One clock pulse with its data: the data lines settle, then the clock rises and falls (R153,
R154). -/
def pulse (a b : Bool) : List PinEvent := [.data a b, .clkRise, .clkFall]

/-- One phase: the row `a` on line A and the row `b` on line B, least significant bit first (R150,
R152). -/
def phase (a b : Row) : List PinEvent :=
  [0, 1, 2, 3].flatMap fun i => pulse (a.getLsbD i) (b.getLsbD i)

/-- SHIFT_LAYER(r): rows 2 and 0 in phase 1, rows 3 and 1 in phase 2 (R150, R151). -/
def shiftLayer (r : Coord → Row) : List PinEvent := phase (r 2) (r 0) ++ phase (r 3) (r 1)

/-- The pin events of MUX_STEP for layer `l`, steps (b) to (d) (R170). -/
def tickScript (l : Coord) (r : Coord → Row) : List PinEvent :=
  .le 0b0000#4 :: shiftLayer r ++ [.le (onehot l)]

/-- The levels after one pin event; each pin holds its level until an event drives it (R38). -/
def Pins.drive (p : Pins) : PinEvent → Pins
  | .le m => { p with le := m }
  | .data a b => { p with dataA := a, dataB := b }
  | .clkRise => { p with sclk := true }
  | .clkFall => { p with sclk := false }

/-- The levels after a list of pin events, first event first. -/
def Pins.driveAll (p : Pins) (es : List PinEvent) : Pins := es.foldl Pins.drive p

end Sys2Proof.Machine
end

