-- ==== Sys2Proof/Machine/Ops.lean ====
section
/-! DEFINITION. Machine/Ops.lean: the named operations over the state that the meanings share. LCRE
raises no exception (spec 60_exceptions.md R250); what stands where a processor's exception entry
and return stand is the entry and the return of a tick (R257, R258), here `startTick` and
`finishTick`. -/

namespace Sys2Proof.Machine

/-! ### The buffer (R22-R24) -/

/-- `buf[z][y]`. -/
def State.row (s : State) (z y : Coord) : Row :=
  (s.buf[z.toNat]'(by have := z.isLt; omega))[y.toNat]'(by have := y.isLt; omega)

/-- `buf[z][y] <- v`, the whole row in one step (R63, R121). -/
def State.setRow (s : State) (z y : Coord) (v : Row) : State :=
  { s with
    buf := s.buf.set z.toNat
      ((s.buf[z.toNat]'(by have := z.isLt; omega)).set y.toNat v (by have := y.isLt; omega))
      (by have := z.isLt; omega) }

/-- Voxel (x, y, z): bit x of row `buf[z][y]` (R23). -/
def State.voxel (s : State) (z y x : Coord) : Bool := (s.row z y).getLsbD x.toNat

/-! ### The host port (R90) -/

/-- A read returns `v` to the host. -/
def State.respond (s : State) (v : Byte) : State := { s with rdata := some v }

/-- A write returns nothing. -/
def State.acknowledge (s : State) : State := { s with rdata := none }

/-- What a read of address `a` returns in this state: the register space seen byte by byte (R65).
The transaction's side effect (FRAMETAKE's, R64) is not part of it. -/
def State.peek (s : State) (a : Addr) : Byte :=
  match decodeAddr a with
  | .row z y => (s.row z y).setWidth 8
  | .ctrl => s.ctrlByte
  | .status => s.statusByte
  | .layer => s.layer.setWidth 8
  | .tickcnt => s.tcnt
  | .frametake => zextBit s.frame
  | .framediv => s.params.frameDiv
  | .rsvd16 _ => 0x00#8
  | .rsvd18 _ => 0x00#8
  | .rsvd20 _ => 0x00#8
  | .vox z y x => zextBit (s.voxel z y x)

/-! ### Control and the frame signal -/

/-- The effect of a CTRL write: Idle moves to Ticking on ARM = 1 and nothing moves back; IND and FIE
are rewritten (R199). -/
def State.writeCtrl (s : State) (data : Byte) : State :=
  { s with
    run := if ctrlArm data then .ticking else s.run
    ind := ctrlInd data
    fie := ctrlFie data }

/-- `frame <- 0`, the consume (R222). -/
def State.clearFrame (s : State) : State := { s with frame := false }

/-! ### A tick, step by step (R170, R193, R196) -/

/-- Step (a) of MUX_STEP, with which a tick begins: the layer index advances modulo 4, and the rows
of the new layer as `buf` holds them now fix the pin sequence to drive (R74, R170, R177). -/
def State.beginTick (s : State) : State :=
  { s with
    layer := s.layer + 1
    engine := .driving (tickScript (s.layer + 1) (s.row (s.layer + 1)))
    trace := [] }

/-- Entry of a tick: a tick while Idle has no effect (R191, R193). No state is saved (R257). -/
def State.startTick (s : State) : State :=
  match s.run with
  | .idle => s
  | .ticking => s.beginTick

/-- `emit(e)`: drive one pin event and append it to the tick's trace (R10, R11, R38). -/
def State.drivePin (s : State) (e : PinEvent) (rest : List PinEvent) : State :=
  { s with pins := s.pins.drive e, trace := s.trace ++ [e], engine := .driving rest }

/-- The frame-tick counter's update, after the multiplexer sequence, against `FRAME_DIV` (R193). A
boundary sets `frame` and nothing here clears it (R195). -/
def State.countTick (s : State) : State :=
  { s with
    tcnt := nextTcnt s.params.frameDiv s.tcnt
    frame := s.frame || isBoundary s.params.frameDiv s.tcnt }

/-- The tick is over: the counter is updated and `busy` falls. -/
def State.endTick (s : State) : State :=
  { s.countTick with engine := .quiet }

/-- Return of a tick: `busy` falls, and a pending tick is cleared and starts at once, before any
held host transaction (R196, R258); with none pending the host port is served next, in the same step
(`State.closeTick`). Nothing is restored (R258). -/
def State.finishTick (s : State) : State :=
  if s.tickPending then State.startTick { s.endTick with tickPending := false }
  else s.endTick

/-! ### A tick as one event (R71, R193) -/

/-- MUX_STEP as one event (R170): the whole pin sequence is driven. -/
def State.muxStep (s : State) : State :=
  { s with
    layer := s.layer + 1
    pins := s.pins.driveAll (tickScript (s.layer + 1) (s.row (s.layer + 1)))
    trace := tickScript (s.layer + 1) (s.row (s.layer + 1)) }

/-- TICK() (R193). -/
def State.tick (s : State) : State :=
  match s.run with
  | .idle => s
  | .ticking => s.muxStep.countTick

/-! ### Reset (R290) -/

/-- RESET(): every state element takes its reset value, a tick in progress is abandoned and a held
transaction is discarded (R255, R290, R292). What the environment is going to do is no state of
LCRE and stays, and so do the machine's parameters. -/
def State.doReset (s : State) : State :=
  { State.resetWith s.params with inputs := s.inputs }

end Sys2Proof.Machine
end

