-- ==== Sys2Proof/Machine/VoxelBuffer.lean ====
section
/-! DEFINITION. Machine/VoxelBuffer.lean: voxel buffer access (spec 40_voxel_buffer.md). -/

namespace Sys2Proof.Machine

/-- The outcome type of every meaning. -/
abbrev Result := Host.Outcome State Fault Refusal

/-- ROW_RD (R120): `rdata <- zext_8(buf[z][y])`. DATA is ignored. -/
def execRowRd (z y : Coord) (_data : Byte) (s : State) : Result :=
  .next (s.respond ((s.row z y).setWidth 8))

/-- ROW_WR (R121): `buf[z][y] <- DATA[3:0]`. -/
def execRowWr (z y : Coord) (data : Byte) (s : State) : Result :=
  .next (s.setRow z y (rowValue data)).acknowledge

/-- VOX_RD (R122): `rdata <- zext_8(buf[z][y][x])`. DATA is ignored. -/
def execVoxRd (z y x : Coord) (_data : Byte) (s : State) : Result :=
  .next (s.respond (zextBit (s.voxel z y x)))

/-- VOX_WR (R123): one indivisible read-modify-write of row `buf[z][y]` that sets bit x to
DATA[0]. -/
def execVoxWr (z y x : Coord) (data : Byte) (s : State) : Result :=
  .next (s.setRow z y (setBit (s.row z y) x (voxValue data))).acknowledge

end Sys2Proof.Machine
end

