-- ==== Sys2Proof/Machine/FrameSync.lean ====
section
/-! DEFINITION. Machine/FrameSync.lean: the transactions on STATUS and FRAMETAKE (spec
44_frame_sync.md). -/

namespace Sys2Proof.Machine

/-- STATUS_RD (R220); it does not consume `frame`. -/
def execStatusRd (_data : Byte) (s : State) : Result := .next (s.respond s.statusByte)

/-- STATUS_WR (R221): no operation; STATUS has no write-1-to-clear bit. -/
def execStatusWr (_data : Byte) (s : State) : Result := .next s.acknowledge

/-- FRAMETAKE_RD (R222): test and clear `frame` in one step; the value returned is the one from
before the clear. -/
def execFrametakeRd (_data : Byte) (s : State) : Result :=
  .next (s.clearFrame.respond (zextBit s.frame))

/-- FRAMETAKE_WR (R223): no operation; only a read consumes. -/
def execFrametakeWr (_data : Byte) (s : State) : Result := .next s.acknowledge

end Sys2Proof.Machine
end

