-- ==== Sys2Proof/Machine/RefreshScheduler.lean ====
section
/-! DEFINITION. Machine/RefreshScheduler.lean: the transactions on CTRL, LAYER, TICKCNT, FRAMEDIV and
the reserved addresses (spec 43_refresh_scheduler.md). -/

namespace Sys2Proof.Machine

/-- CTRL_RD (R198). -/
def execCtrlRd (_data : Byte) (s : State) : Result := .next (s.respond s.ctrlByte)

/-- CTRL_WR (R199). `irq` follows `frame` and `fie` (R39). -/
def execCtrlWr (data : Byte) (s : State) : Result := .next (s.writeCtrl data).acknowledge

/-- LAYER_RD (R200): `rdata <- zext_8(layer)`. -/
def execLayerRd (_data : Byte) (s : State) : Result := .next (s.respond (s.layer.setWidth 8))

/-- LAYER_WR (R203): no operation. -/
def execLayerWr (_data : Byte) (s : State) : Result := .next s.acknowledge

/-- TICKCNT_RD (R201): `rdata <- tcnt`. -/
def execTickcntRd (_data : Byte) (s : State) : Result := .next (s.respond s.tcnt)

/-- TICKCNT_WR (R206): no operation. -/
def execTickcntWr (_data : Byte) (s : State) : Result := .next s.acknowledge

/-- FRAMEDIV_RD (R202): `rdata <- FRAME_DIV`. -/
def execFramedivRd (_data : Byte) (s : State) : Result :=
  .next (s.respond s.params.frameDiv)

/-- FRAMEDIV_WR (R207): no operation. -/
def execFramedivWr (_data : Byte) (s : State) : Result := .next s.acknowledge

/-- RSVD_RD of 0x16-0x17 (R204): `rdata <- 0x00`. -/
def execRsvdRd16 (_addr : Addr) (_data : Byte) (s : State) : Result := .next (s.respond 0x00#8)

/-- RSVD_RD of 0x18-0x1F (R204): `rdata <- 0x00`. -/
def execRsvdRd18 (_addr : Addr) (_data : Byte) (s : State) : Result := .next (s.respond 0x00#8)

/-- RSVD_RD of 0x20-0x3F (R204): `rdata <- 0x00`. -/
def execRsvdRd20 (_addr : Addr) (_data : Byte) (s : State) : Result := .next (s.respond 0x00#8)

/-- RSVD_WR of 0x16-0x17 (R205): no operation. -/
def execRsvdWr16 (_addr : Addr) (_data : Byte) (s : State) : Result := .next s.acknowledge

/-- RSVD_WR of 0x18-0x1F (R205): no operation. -/
def execRsvdWr18 (_addr : Addr) (_data : Byte) (s : State) : Result := .next s.acknowledge

/-- RSVD_WR of 0x20-0x3F (R205): no operation. -/
def execRsvdWr20 (_addr : Addr) (_data : Byte) (s : State) : Result := .next s.acknowledge

end Sys2Proof.Machine
end

