-- ==== Sys2Proof/Machine/Dispatch.lean ====
section
/-! DEFINITION. Machine/Dispatch.lean: one arm per instruction (spec 30_encoding.md R98). -/

namespace Sys2Proof.Machine

/-- The effect of one host transaction. -/
def exec (i : Instr) (s : State) : Host.Outcome State Fault Refusal :=
  match i with
  | .rowRd z y data => Sys2Proof.Machine.execRowRd z y data s
  | .rowWr z y data => Sys2Proof.Machine.execRowWr z y data s
  | .ctrlRd data => Sys2Proof.Machine.execCtrlRd data s
  | .ctrlWr data => Sys2Proof.Machine.execCtrlWr data s
  | .statusRd data => Sys2Proof.Machine.execStatusRd data s
  | .statusWr data => Sys2Proof.Machine.execStatusWr data s
  | .layerRd data => Sys2Proof.Machine.execLayerRd data s
  | .layerWr data => Sys2Proof.Machine.execLayerWr data s
  | .tickcntRd data => Sys2Proof.Machine.execTickcntRd data s
  | .tickcntWr data => Sys2Proof.Machine.execTickcntWr data s
  | .frametakeRd data => Sys2Proof.Machine.execFrametakeRd data s
  | .frametakeWr data => Sys2Proof.Machine.execFrametakeWr data s
  | .framedivRd data => Sys2Proof.Machine.execFramedivRd data s
  | .framedivWr data => Sys2Proof.Machine.execFramedivWr data s
  | .rsvdRd16 addr data => Sys2Proof.Machine.execRsvdRd16 addr data s
  | .rsvdRd18 addr data => Sys2Proof.Machine.execRsvdRd18 addr data s
  | .rsvdRd20 addr data => Sys2Proof.Machine.execRsvdRd20 addr data s
  | .rsvdWr16 addr data => Sys2Proof.Machine.execRsvdWr16 addr data s
  | .rsvdWr18 addr data => Sys2Proof.Machine.execRsvdWr18 addr data s
  | .rsvdWr20 addr data => Sys2Proof.Machine.execRsvdWr20 addr data s
  | .voxRd z y x data => Sys2Proof.Machine.execVoxRd z y x data s
  | .voxWr z y x data => Sys2Proof.Machine.execVoxWr z y x data s

end Sys2Proof.Machine
end

