-- ==== Sys2Proof/Machine/Cycle.lean ====
section
/-! DEFINITION. Machine/Cycle.lean: what one step does with the inputs of one slot (spec R70-R72,
R190-R197, R252-R258, R290-R292). While a tick is driven, one step drives one pin event; between
ticks, one step starts a tick or performs one transaction. The step in which `busy` falls does so
too: it starts the pending tick or performs the held transaction (R258). A step is no unit of time
(R2, R303). -/

namespace Sys2Proof.Machine

/-- A slot in which nothing arrives. -/
def Slot.none : Slot := { reset := false, tick := false, host := Option.none }

/-- The inputs of the coming step. -/
def State.slot (s : State) : Slot := s.inputs.headD Slot.none

/-- The slot is taken off the inputs, and a transaction issued in it joins the port. -/
def State.arrive (s : State) : State :=
  { s with inputs := s.inputs.tail, port := s.port ++ s.slot.host.toList }

/-- A strobe that comes while `busy` sets `tick_pending`; a further one is lost (R196). -/
def State.latchStrobe (s : State) (strobe : Bool) : State :=
  { s with tickPending := s.tickPending || strobe }

/-- The host port when no tick is in progress: the oldest transaction issued is performed; with none
issued LCRE waits (R293). -/
def State.serve (s : State) : Result :=
  match s.port with
  | [] => .next s
  | w :: ws => exec (decode w) { s with port := ws }

/-- The last move of a tick, as `busy` falls: the pending tick starts if there is one; otherwise the
host port serves the held transaction at once (R196, R197, R258), so that no later strobe comes
before it (R301). -/
def State.closeTick (s : State) : Result :=
  if s.tickPending then .next s.finishTick else s.finishTick.serve

/-- The ENGINE's move, given the `tick` strobe. The host port is served only when no tick is in
progress (R71, R197) and no strobe is accepted (R254). A strobe while Idle is ignored and not
latched (R191). -/
def State.engineMove (s : State) (strobe : Bool) : Result :=
  match s.engine with
  | .driving (e :: rest) => .next ((s.latchStrobe strobe).drivePin e rest)
  | .driving [] => (s.latchStrobe strobe).closeTick
  | .quiet => if strobe && s.ticking then .next s.beginTick else s.serve

/-- One step: RESET takes priority over everything (R255). -/
def State.cycle (s : State) : Result :=
  if s.slot.reset then .next (State.doReset s.arrive)
  else s.arrive.engineMove s.slot.tick

end Sys2Proof.Machine
end

