-- ==== Sys2Proof/Machine/Step.lean ====
section
/-! DEFINITION. Machine/Step.lean: the step, and the placing of an instruction where the next step
takes it from. -/

namespace Sys2Proof.Machine

/-- One step of LCRE (Machine/Cycle.lean). -/
def step (s : State) : Host.Outcome State Fault Refusal := s.cycle

/-- `s` with the word at the head of the host port, no tick in progress and a slot in which nothing
else arrives, so that the next step performs exactly it. LCRE fetches nothing (R21): a program is a
host's, and its transactions reach LCRE through the port (log entry 4). -/
def State.withFetchWord (s : State) (nbits w : Nat) : State :=
  { s with
    engine := .quiet
    port := BitVec.ofNat 16 (w % 2 ^ nbits) :: s.port
    inputs := Slot.none :: s.inputs }

end Sys2Proof.Machine
end

