-- ==== Sys2Proof/Machine/Assembler.lean ====
section
/-! DEFINITION. Machine/Assembler.lean: the assembler's syntax as data, and the words it stands for
(spec 30_encoding.md R102, R103). Reading text is no part of it. -/

namespace Sys2Proof.Machine

/-- `<reg>` of R102. Coordinates out of 0-3 have no term, as they have no word. -/
inductive RegName where
  | row (z y : Coord)
  | vox (z y x : Coord)
  | ctrl
  | status
  | layer
  | tickcnt
  | frametake
  | framediv
  | at (addr : Addr)
  deriving DecidableEq, Repr

/-- `addr(<reg>)` (R65, R102). -/
def RegName.addr : RegName → Addr
  | .row z y => rowAddr z y
  | .vox z y x => voxAddr z y x
  | .ctrl => 0x10#7
  | .status => 0x11#7
  | .layer => 0x12#7
  | .tickcnt => 0x13#7
  | .frametake => 0x14#7
  | .framediv => 0x15#7
  | .at a => a

/-- `RD <reg>` encodes `{0, addr(<reg>), 0x00}` (R102). -/
def asmRd (r : RegName) : Word16 := mkWord false r.addr 0x00#8

/-- `WR <reg>, <imm8>` encodes `{1, addr(<reg>), imm8}`; an immediate out of 0-255 is an assembly
error (R102). -/
def asmWr (r : RegName) (imm : Nat) : Option Word16 :=
  if imm < 256 then some (mkWord true r.addr (BitVec.ofNat 8 imm)) else none

/-- The pseudo-instructions of R103. -/
inductive Pseudo where
  | setvox (x y z : Coord)
  | clrvox (x y z : Coord)
  | getvox (x y z : Coord)
  | setrow (z y : Coord) (v : Nat)
  | getrow (z y : Coord)
  | arm
  | take
  | nop
  deriving DecidableEq, Repr

/-- A pseudo-instruction's one transaction (R103). -/
def Pseudo.expand : Pseudo → Option Word16
  | .setvox x y z => asmWr (.vox z y x) 1
  | .clrvox x y z => asmWr (.vox z y x) 0
  | .getvox x y z => some (asmRd (.vox z y x))
  | .setrow z y v => asmWr (.row z y) v
  | .getrow z y => some (asmRd (.row z y))
  | .arm => asmWr .ctrl 0x01
  | .take => some (asmRd .frametake)
  | .nop => some (asmRd .status)

end Sys2Proof.Machine
end

