-- ==== Sys2Proof/Machine/Chains.lean ====
section
/-! DEFINITION. Machine/Chains.lean: the reference model of the two external shift-register chains, an
observation computed from the pin events and no state of LCRE (spec 10_state.md R43,
41_serial_driver.md R158, R159), and the LEDs it lights. -/

namespace Sys2Proof.Machine

/-- The contents of the two chains; bit k is stage k, stage 0 the one the data line feeds (R158). -/
structure Chains where
  a : BitVec 8
  b : BitVec 8
  deriving DecidableEq, Repr

/-- One rising clock edge: every stage takes the one before it, stage 0 the data line (R158). -/
def Chains.clock (c : Chains) (dataA dataB : Bool) : Chains :=
  { a := c.a.extractLsb' 0 7 ++ BitVec.ofBool dataA
    b := c.b.extractLsb' 0 7 ++ BitVec.ofBool dataB }

/-- The pins and the chains after one pin event; only CLK_RISE changes the chains (R158). -/
def observeEvent (pc : Pins × Chains) (e : PinEvent) : Pins × Chains :=
  (pc.1.drive e,
    match e with
    | .clkRise => pc.2.clock pc.1.dataA pc.1.dataB
    | .le _ => pc.2
    | .data _ _ => pc.2
    | .clkFall => pc.2)

/-- The chains after a list of pin events, from given pins and chains. -/
def observe (p : Pins) (c : Chains) (es : List PinEvent) : Chains :=
  (es.foldl observeEvent (p, c)).2

/-- The chain stage that voxel (x, y) of the displayed layer ends in: the first phase's bit i in
stage 7 - i, the second's in stage 3 - i (R159). -/
def stageIndex (y x : Coord) : Fin 8 :=
  if y.getLsbD 0 then ⟨3 - x.toNat, by omega⟩ else ⟨7 - x.toNat, by omega⟩

/-- The content of the stage of voxel (x, y): rows 0 and 1 are on line B, 2 and 3 on line A
(R151). -/
def Chains.stage (c : Chains) (y x : Coord) : Bool :=
  (if y.getLsbD 1 then c.a else c.b).getLsbD (stageIndex y x)

/-- The LED in column `col` of layer `z` is on: the layer is enabled and a stage that feeds the
column holds 1 (R13, R157, R175; log entry 2). The column of a stage is the OPEN parameter
`WIRING`. -/
def ledOn (p : Pins) (c : Chains) (z : Coord) (col : Nat) : Bool :=
  p.le.getLsbD z.toNat &&
    ((List.finRange 8).any (fun k => Config.wiring true k == col && c.a.getLsbD k) ||
      (List.finRange 8).any (fun k => Config.wiring false k == col && c.b.getLsbD k))

end Sys2Proof.Machine
end

