-- ==== Sys2Proof/Machine/Transaction.lean ====
section
/-! DEFINITION. Machine/Transaction.lean: LCRE at the transaction level (spec 00_scope.md R2, R12,
20_memory.md R70, 92 D34): one atomic step per host transaction, tick or reset; how a state of the
pin-level machine reads at that level; and the infinite runs of both levels (R192). -/

namespace Sys2Proof.Machine

/-- One event of a run (R70). -/
inductive TxnEvent where
  | host (w : Word16)
  | tick
  | reset
  deriving DecidableEq, Repr

/-- The effect of one event; each reads the state the one before it left (R70). -/
def applyEvent (e : TxnEvent) (s : State) : Result :=
  match e with
  | .host w => exec (decode w) s
  | .tick => .next s.tick
  | .reset => .next s.doReset

/-- The effect of a run: its events in order (R70). -/
def runEvents : List TxnEvent → State → Result
  | [], s => .next s
  | e :: es, s =>
    match applyEvent e s with
    | .next t => runEvents es t
    | .fault r => .fault r
    | .refused r => .refused r

/-- `HostRead(addr)` (R10): the transaction `{0, addr, 0x00}` (R102). -/
def hostRead (addr : Addr) (s : State) : Result := exec (decode (mkWord false addr 0x00#8)) s

/-- `HostWrite(addr, wdata)` (R10): the transaction `{1, addr, wdata}`. -/
def hostWrite (addr : Addr) (wdata : Byte) (s : State) : Result :=
  exec (decode (mkWord true addr wdata)) s

/-- The tick in progress, if there is one, brought to its end (R71: a tick is one event). -/
def State.completeTick (s : State) : State :=
  match s.engine with
  | .quiet => s
  | .driving rest =>
    State.endTick { s with pins := s.pins.driveAll rest, trace := s.trace ++ rest }

/-- A state of the pin-level machine read at the transaction level: the tick in progress counts as
done, even if a reset will abandon it (log entry 17), and what has not happened yet (a pending
strobe, held transactions, inputs to come) is left to later events (R42). -/
def State.settle (s : State) : State :=
  { s.completeTick with tickPending := false, port := [], inputs := [] }

/-- The transaction of the coming step, if it serves the host port: the oldest one issued. -/
def State.nextTransaction (s : State) : Option TxnEvent := s.arrive.port.head?.map .host

/-- The event of R70 that the next step performs, if it performs one: a tick is performed where it
starts, a transaction where it is served. DESIGN CHOICE (log entry 17): so a tick that a reset then
abandons is listed, whole, before the reset, where R292 has it replaced by the reset; what the run
leaves is the same (`State.doReset_tick`). -/
def State.commits (s : State) : Option TxnEvent :=
  if s.slot.reset then some .reset
  else
    match s.engine with
    | .driving (_ :: _) => none
    | .driving [] => if s.tickPending || s.slot.tick then some .tick else s.nextTransaction
    | .quiet => if s.slot.tick && s.ticking then some .tick else s.nextTransaction

/-- The pin-level machine run for `k` steps: the state reached, with the events performed on the
way, in order. -/
def runSteps : Nat → State → Option (List TxnEvent × State)
  | 0, s => some ([], s)
  | k + 1, s =>
    match step s with
    | .next t => (runSteps k t).map fun r => (s.commits.toList ++ r.1, r.2)
    | .fault _ => none
    | .refused _ => none

/-- The number of ticks in a list of events. -/
def tickCount (es : List TxnEvent) : Nat := es.countP (· == .tick)

/-- The event is a FRAMETAKE read, the consume (R13, R222). -/
def TxnEvent.isTake : TxnEvent → Bool
  | .host w => wordWrite w == false && wordAddr w == 0x14#7
  | .tick => false
  | .reset => false

/-- The event is a CTRL write that arms (R199). -/
def TxnEvent.isArm : TxnEvent → Bool
  | .host w => wordWrite w && wordAddr w == 0x10#7 && ctrlArm (wordData w)
  | .tick => false
  | .reset => false

/-- The event is a host write to row `buf[z][y]`, whole or one voxel of it (R121, R123). -/
def TxnEvent.writesRow (z y : Coord) : TxnEvent → Bool
  | .host w =>
    wordWrite w &&
      (wordAddr w == rowAddr z y || [0, 1, 2, 3].any fun x => wordAddr w == voxAddr z y x)
  | .tick => false
  | .reset => false

/-! ### Infinite runs and the progress assumption (R192) -/

/-- The progress assumption (R192): if from some moment on the block is Ticking forever, ticks keep
happening, with no bound on how far apart. `ticking k` and `tick k` say what holds at moment `k`. -/
def Progress (ticking tick : Nat → Prop) : Prop :=
  (∃ m, ∀ k, m ≤ k → ticking k) → ∀ m, ∃ k, m ≤ k ∧ tick k

/-- An infinite run at the transaction level (R70, R192): `s k` is the state before event `es k`.
Every order of the events that keeps the progress assumption is a run. -/
structure IsRun (s : Nat → State) (es : Nat → TxnEvent) : Prop where
  follows : ∀ k, applyEvent (es k) (s k) = .next (s (k + 1))
  progress : Progress (fun k => (s k).run = .ticking) (fun k => es k = .tick)

/-- The state with one slot to come: what the environment supplies to the coming step. -/
def State.given (s : State) (arrival : Slot) : State := { s with inputs := [arrival] }

/-- An infinite run of the pin-level machine (R192): the environment supplies one slot a step, and
while the block is Ticking forever ticks keep being performed. -/
structure IsPinRun (s : Nat → State) (arrivals : Nat → Slot) : Prop where
  follows : ∀ k, step ((s k).given (arrivals k)) = .next (s (k + 1))
  progress : Progress (fun k => (s k).run = .ticking)
    (fun k => ((s k).given (arrivals k)).commits = some .tick)

end Sys2Proof.Machine
end

