-- ==== Sys2Proof/Machine/HostProc.lean ====
section
/-! DEFINITION. Machine/HostProc.lean: the HOST agent's programs (spec 30_encoding.md R104), the two
normative procedures FRAMESYNC and INIT (44_frame_sync.md R226-R231), and the HOST and LCRE run
together under a schedule (R12, R70). None of it is state of LCRE: the host's program counter
belongs to the host (R21). -/

namespace Sys2Proof.Machine

/-- A condition on `v`, the result of the last RD (R104). DESIGN CHOICE (log entry 16): R104 says
only that `<cond>` tests `v`; here it is any test of a bit of `v` or of `v` against a constant, and
any combination of tests, so that every condition on the 8 bits of `v`, and none on anything else,
can be written. -/
inductive Cond where
  | vBit (i : Fin 8) (b : Bool)
  | vEq (c : Byte)
  | not (c : Cond)
  | and (c d : Cond)
  | or (c d : Cond)
  deriving DecidableEq, Repr

/-- The condition holds of `v`. -/
def Cond.holds (v : Byte) : Cond → Bool
  | .vBit i b => v.getLsbD i == b
  | .vEq c => v == c
  | .not c => !c.holds v
  | .and c d => c.holds v && d.holds v
  | .or c d => c.holds v || d.holds v

/-- A host program (R104): transactions and the host's own control constructs, with the wait of
R231. -/
inductive HostCmd where
  | skip
  | xact (w : Word16)
  | seq (first next : HostCmd)
  | loopUntil (body : HostCmd) (c : Cond)
  | repeatN (n : Nat) (body : HostCmd)
  | ifThen (c : Cond) (body : HostCmd)
  | waitIrq
  deriving DecidableEq, Repr

/-- What a host program does in one turn. -/
inductive HostMove where
  | done
  | wait
  | silent (next : HostCmd)
  | issue (w : Word16) (next : HostCmd)
  deriving DecidableEq, Repr

/-- The next move of a program, given `v` and the level of `irq` (R104, R231). A loop runs its body
and then tests; `repeat n` runs its body n times. DESIGN CHOICE (log entry 18): the wait of R231 ends
only in a turn in which `irq` = 1; R231 calls a wake with no boundary harmless, so a host's own wait
may end with `irq` = 0 too, and the model has no such wake. -/
def HostCmd.move (v : Byte) (irq : Bool) : HostCmd → HostMove
  | .skip => .done
  | .xact w => .issue w .skip
  | .seq a b =>
    match a.move v irq with
    | .done => .silent b
    | .wait => .wait
    | .silent a' => .silent (.seq a' b)
    | .issue w a' => .issue w (.seq a' b)
  | .loopUntil body c => .silent (.seq body (.ifThen (.not c) (.loopUntil body c)))
  | .repeatN 0 _ => .silent .skip
  | .repeatN (n + 1) body => .silent (.seq body (.repeatN n body))
  | .ifThen c body => .silent (if c.holds v then body else .skip)
  | .waitIrq => if irq then .silent .skip else .wait

/-- `RD FRAMETAKE`, the word 0x1400 (R226). -/
def takeWord : Word16 := 0x1400#16

/-- The condition `v[0] = 1`. -/
def gotFrame : Cond := .vBit 0 true

/-- `loop { RD FRAMETAKE } until v[0] = 1`: wait for one boundary and consume it (R226). -/
def pollFrame : HostCmd := .loopUntil (.xact takeWord) gotFrame

/-- The low-power form of the poll loop (R231). -/
def pollFrameIrq : HostCmd := .loopUntil (.seq .waitIrq (.xact takeWord)) gotFrame

/-- FRAMESYNC with a given poll loop: nothing for n = 0, else a discarding read and n polls
(R226, R227). -/
def framesyncWith (poll : HostCmd) (n : Nat) : HostCmd :=
  match n with
  | 0 => .skip
  | n + 1 => .seq (.xact takeWord) (.repeatN (n + 1) poll)

/-- FRAMESYNC(n), `waitFrames(n)` (R226). -/
def framesync (n : Nat) : HostCmd := framesyncWith pollFrame n

/-- FRAMESYNC(n) in its low-power variant (R231). -/
def framesyncIrq (n : Nat) : HostCmd := framesyncWith pollFrameIrq n

/-- INIT with `WARMUP_FRAMES` and the words its two CTRL writes send: arm, wait out the warm-up,
turn the indicator on (R228). With the frame interrupt wanted the last word is 0x9007 (R228) and the
first may be 0x9005 (R294). -/
def initWith (warmup : Nat) (armWord lastWord : Word16) : HostCmd :=
  .seq (.xact armWord) (.seq (framesync warmup) (.xact lastWord))

/-- INIT, `initialize()`, for a machine with the parameters `p` (R6, R228). -/
def initProc (p : Params) : HostCmd := initWith p.warmupFrames 0x9001#16 0x9003#16

/-! ### HOST and LCRE together -/

/-- What happened, as an observer of the host port and the tick input records it: a transaction
with what it returned, a tick that was accepted with whether it was a frame boundary (R13), a tick
ignored while Idle, a reset. -/
inductive Happening where
  | xact (w : Word16) (rdata : Option Byte)
  | tick (boundary : Bool)
  | ignored
  | reset
  deriving DecidableEq, Repr

/-- LCRE at the transaction level, the host's program and its `v`, and the record so far, oldest
first. -/
structure System where
  lcre : State
  prog : HostCmd
  v : Byte
  log : List Happening
  deriving DecidableEq, Repr

/-- Whose turn it is: the schedule is free (R70). -/
inductive Turn where
  | host
  | tick
  | reset
  deriving DecidableEq, Repr

/-- The host issues a transaction, which is performed. -/
def System.transact (p : System) (w : Word16) (next : HostCmd) : System :=
  match applyEvent (.host w) p.lcre with
  | .next t =>
    { lcre := t, prog := next, v := t.rdata.getD p.v, log := p.log ++ [.xact w t.rdata] }
  | .fault _ => p
  | .refused _ => p

/-- A turn of the host. -/
def System.hostTurn (p : System) : System :=
  match p.prog.move p.v p.lcre.irq with
  | .done => p
  | .wait => p
  | .silent c => { p with prog := c }
  | .issue w c => p.transact w c

/-- A strobe on the tick input. -/
def System.tickTurn (p : System) : System :=
  { p with
    lcre := p.lcre.tick
    log := p.log ++
      [if p.lcre.ticking then .tick (isBoundary p.lcre.params.frameDiv p.lcre.tcnt) else .ignored] }

/-- One turn. -/
def System.turn (p : System) : Turn → System
  | .host => p.hostTurn
  | .tick => p.tickTurn
  | .reset => { p with lcre := p.lcre.doReset, log := p.log ++ [.reset] }

/-- A run under a schedule. -/
def System.runTurns (p : System) (ts : List Turn) : System := ts.foldl System.turn p

/-- The system after `k` turns of an infinite schedule. -/
def System.after (p : System) (sched : Nat → Turn) : Nat → System
  | 0 => p
  | k + 1 => (p.after sched k).turn (sched k)

/-- The schedule keeps the progress assumption (R192), and the host is given turns again and again
(it goes on executing its program). -/
structure System.Fair (p : System) (sched : Nat → Turn) : Prop where
  progress : Progress (fun k => (p.after sched k).lcre.run = .ticking) (fun k => sched k = .tick)
  host : ∀ m, ∃ k, m ≤ k ∧ sched k = .host

/-- The happening is a FRAMETAKE read that returned 1: a boundary consumed (R222). -/
def Happening.consumed : Happening → Bool
  | .xact w (some v) => w == takeWord && v.getLsbD 0
  | .xact _ none => false
  | .tick _ => false
  | .ignored => false
  | .reset => false

/-- The happening is a transaction. -/
def Happening.isXact : Happening → Bool
  | .xact _ _ => true
  | .tick _ => false
  | .ignored => false
  | .reset => false

/-- The happening is a frame boundary. -/
def Happening.isBoundary : Happening → Bool
  | .tick b => b
  | .xact _ _ => false
  | .ignored => false
  | .reset => false

end Sys2Proof.Machine
end

