-- ==== Sys2Proof/Safety.lean ====
section
/-! DEFINITION. Safety.lean: what a safe state of LCRE is, in the terms the statements use. -/

namespace Sys2Proof

open Sys2Proof.Machine

/-- At most one layer is enabled (R171): the mask is 0 or one-hot. -/
def AtMostOneLayer (m : BitVec 4) : Prop := m = 0#4 ∨ ∃ z : Coord, m = onehot z

/-- The scheduler has not been armed since reset: everything the ENGINE writes is as reset left it,
and the cube is dark (R190, R191, R291). -/
structure IdleInv (s : State) : Prop where
  engine : s.engine = .quiet
  pending : s.tickPending = false
  pins : s.pins = Pins.reset
  layer : s.layer = s.params.resetLayer
  tcnt : s.tcnt = 0#8
  frame : s.frame = false
  trace : s.trace = []

/-- Between ticks: the clock is low, and exactly the layer last displayed is enabled once a tick has
run (R38, R154, R174); no strobe is pending (R196). -/
structure QuietInv (s : State) : Prop where
  pending : s.tickPending = false
  sclk : s.pins.sclk = false
  le : s.pins.le = if s.trace = [] then 0#4 else onehot s.layer

/-- Inside a tick: what has been driven and what is left make up the sequence of R170 for the layer
displayed, as `buf` stands; the levels are what the events driven so far leave (R38, R170, R177). -/
structure DrivingInv (s : State) (rest : List PinEvent) : Prop where
  running : s.run = .ticking
  script : s.trace ++ rest = tickScript s.layer (s.row s.layer)
  pins : ∃ p : Pins, p.sclk = false ∧ AtMostOneLayer p.le ∧ s.pins = p.driveAll s.trace

/-- The invariant of LCRE. -/
structure Inv (s : State) : Prop where
  /-- `tcnt` is in [0, FRAME_DIV-1] (R26). -/
  tcnt : s.tcnt.toNat < s.params.frameDiv.toNat
  idle : s.run = .idle → IdleInv s
  quiet : s.engine = .quiet → QuietInv s
  driving : ∀ rest, s.engine = .driving rest → DrivingInv s rest

end Sys2Proof
end

