-- ==== Sys2Proof/Certificates/Slice0/Obligations.lean ====
section
/-! DEFINITION. Certificates/Slice0/Obligations.lean: the statements of this row, for the provers. -/

open Sys2Proof Sys2Proof.Machine

/-! ### Encoding (30_encoding.md) -/

/-- Words written out from R98's patterns, one or more of each row, decode to what they stand for
(the decode vectors of 95_test_vectors.md). -/
def Obligations.SampleWordsDecode : Prop :=
  decode 0x0FAB#16 = .rowRd 3 3 0xAB ∧ decode 0x8FFF#16 = .rowWr 3 3 0xFF ∧
  decode 0x1000#16 = .ctrlRd 0x00 ∧ decode 0x9007#16 = .ctrlWr 0x07 ∧
  decode 0x1100#16 = .statusRd 0x00 ∧ decode 0x9101#16 = .statusWr 0x01 ∧
  decode 0x1200#16 = .layerRd 0x00 ∧ decode 0x92FF#16 = .layerWr 0xFF ∧
  decode 0x1300#16 = .tickcntRd 0x00 ∧ decode 0x9300#16 = .tickcntWr 0x00 ∧
  decode 0x1400#16 = .frametakeRd 0x00 ∧ decode 0x9400#16 = .frametakeWr 0x00 ∧
  decode 0x1500#16 = .framedivRd 0x00 ∧ decode 0x9500#16 = .framedivWr 0x00 ∧
  decode 0x17FF#16 = .rsvdRd16 0x17 0xFF ∧ decode 0x1FFF#16 = .rsvdRd18 0x1F 0xFF ∧
  decode 0x3FFF#16 = .rsvdRd20 0x3F 0xFF ∧ decode 0x9600#16 = .rsvdWr16 0x16 0x00 ∧
  decode 0x9FFF#16 = .rsvdWr18 0x1F 0xFF ∧ decode 0xA000#16 = .rsvdWr20 0x20 0x00 ∧
  decode 0x7F00#16 = .voxRd 3 3 3 0x00 ∧ decode 0xC601#16 = .voxWr 0 1 2 0x01

/-- R98: exactly one row of the match/mask table selects each of the 65,536 words, and it is the row
of the instruction the decoder reads. -/
def Obligations.EveryWordSelectsOneRow : Prop :=
  ∀ w : Word16, opcodeTable.filter (fun r => r.selects w) = [(decode w).opcodeRow]

/-- Decoding the word of a well-formed instruction gives it back, with every operand. -/
def Obligations.DecodeOfEncode : Prop :=
  ∀ i : Instr, i.wf = true → decode (encode i) = i

/-- Every word is the word of the instruction it decodes to, which is well-formed (R99: there is no
illegal encoding). -/
def Obligations.EncodeOfDecode : Prop :=
  ∀ w : Word16, encode (decode w) = w ∧ (decode w).wf = true

/-- R95, R96: the operand fields of ROW and VOX words, and the addresses they make. -/
def Obligations.OperandFieldsOfTheWord : Prop :=
  (∀ (w : Word16) (z y : Coord) (d : Byte),
    decode w = .rowRd z y d ∨ decode w = .rowWr z y d →
      z = w.extractLsb' 10 2 ∧ y = w.extractLsb' 8 2 ∧ d = w.extractLsb' 0 8) ∧
  (∀ (w : Word16) (z y x : Coord) (d : Byte),
    decode w = .voxRd z y x d ∨ decode w = .voxWr z y x d →
      z = w.extractLsb' 12 2 ∧ y = w.extractLsb' 10 2 ∧ x = w.extractLsb' 8 2 ∧
        d = w.extractLsb' 0 8) ∧
  (∀ z y : Coord, (rowAddr z y).toNat = 4 * z.toNat + y.toNat) ∧
  (∀ z y x : Coord, (voxAddr z y x).toNat = 0x40 + 16 * z.toNat + 4 * y.toNat + x.toNat)

/-- R93: a read gives the same result whatever its DATA group holds. -/
def Obligations.ReadsIgnoreData : Prop :=
  ∀ (a : Addr) (d d' : Byte) (s : State),
    exec (decode (mkWord false a d)) s = exec (decode (mkWord false a d')) s

/-- R103: the words of the pseudo-instructions. -/
def Obligations.PseudoInstructionWords : Prop :=
  (∀ x y z : Coord,
    Pseudo.expand (.setvox x y z) = some (0xC001#16 ||| (BitVec.ofNat 16 (16 * z.toNat + 4 * y.toNat + x.toNat) <<< 8)) ∧
    Pseudo.expand (.clrvox x y z) = some (0xC000#16 ||| (BitVec.ofNat 16 (16 * z.toNat + 4 * y.toNat + x.toNat) <<< 8)) ∧
    Pseudo.expand (.getvox x y z) = some (0x4000#16 ||| (BitVec.ofNat 16 (16 * z.toNat + 4 * y.toNat + x.toNat) <<< 8))) ∧
  (∀ z y : Coord, Pseudo.expand (.getrow z y) = some (BitVec.ofNat 16 (4 * z.toNat + y.toNat) <<< 8)) ∧
  (∀ (z y : Coord) (v : Nat), v < 256 →
    Pseudo.expand (.setrow z y v) =
      some (0x8000#16 ||| (BitVec.ofNat 16 (4 * z.toNat + y.toNat) <<< 8) ||| BitVec.ofNat 16 v)) ∧
  (∀ (z y : Coord) (v : Nat), 256 ≤ v → Pseudo.expand (.setrow z y v) = none) ∧
  Pseudo.expand .arm = some 0x9001#16 ∧ Pseudo.expand .take = some 0x1400#16 ∧
  Pseudo.expand .nop = some 0x1100#16

/-! ### The voxel buffer (40_voxel_buffer.md) -/

/-- R120: ROW_RD returns the row, bits 7:4 zero, and changes no state. -/
def Obligations.RowReadReturnsTheRow : Prop :=
  ∀ (z y : Coord) (d : Byte) (s : State),
    exec (.rowRd z y d) s = .next { s with rdata := some (0#4 ++ s.row z y) }

/-- R121: ROW_WR stores DATA[3:0] in its row; every other row and all other state keep their
values. -/
def Obligations.RowWriteStoresLowNibble : Prop :=
  ∀ (z y : Coord) (d : Byte) (s : State), ∃ t,
    exec (.rowWr z y d) s = .next t ∧ t = { s with buf := t.buf, rdata := none } ∧
    ∀ z' y' : Coord, t.row z' y' = if z' = z ∧ y' = y then d.extractLsb' 0 4 else s.row z' y'

/-- R122: VOX_RD returns 0x01 or 0x00 as bit x of its row, and changes no state. -/
def Obligations.VoxelReadReturnsTheBit : Prop :=
  ∀ (z y x : Coord) (d : Byte) (s : State),
    exec (.voxRd z y x d) s =
      .next { s with rdata := some (if (s.row z y).getLsbD x.toNat then 0x01#8 else 0x00#8) }

/-- R123: VOX_WR sets its voxel to DATA[0]; the other 63 voxels and all other state keep their
values. -/
def Obligations.VoxelWriteChangesOneVoxel : Prop :=
  ∀ (z y x : Coord) (d : Byte) (s : State), ∃ t,
    exec (.voxWr z y x d) s = .next t ∧ t = { s with buf := t.buf, rdata := none } ∧
    ∀ z' y' x' : Coord,
      t.voxel z' y' x' = if z' = z ∧ y' = y ∧ x' = x then d.getLsbD 0 else s.voxel z' y' x'

/-- R125: what was written is read back, with any ticks and any transactions but a write to the same
row between the two. -/
def Obligations.WrittenValueIsReadBack : Prop :=
  ∀ (z y : Coord) (b : Byte) (es : List TxnEvent) (s : State),
    (∀ e ∈ es, e ≠ .reset ∧ e.writesRow z y = false) →
    (∀ x : Coord, ∃ s1 s2 t,
      hostWrite (voxAddr z y x) b s = .next s1 ∧ runEvents es s1 = .next s2 ∧
      hostRead (voxAddr z y x) s2 = .next t ∧
      t.rdata = some (if b.getLsbD 0 then 0x01#8 else 0x00#8)) ∧
    ∃ s1 s2 t,
      hostWrite (rowAddr z y) b s = .next s1 ∧ runEvents es s1 = .next s2 ∧
      hostRead (rowAddr z y) s2 = .next t ∧ t.rdata = some (0#4 ++ b.extractLsb' 0 4)

/-! ### Control, status and refresh-state registers (43, 44) -/

/-- R198: what CTRL_RD returns, bit by bit; no state changes. -/
def Obligations.CtrlReadValue : Prop :=
  ∀ (d : Byte) (s : State), ∃ v : Byte,
    exec (.ctrlRd d) s = .next { s with rdata := some v } ∧
    v.getLsbD 0 = decide (s.run = .ticking) ∧ v.getLsbD 1 = s.ind ∧ v.getLsbD 2 = s.fie ∧
    v.extractLsb' 3 5 = 0#5

/-- R199: what CTRL_WR writes; `irq` follows, and nothing else changes. -/
def Obligations.CtrlWriteEffect : Prop :=
  ∀ (d : Byte) (s : State), ∃ t,
    exec (.ctrlWr d) s = .next t ∧
    t = { s with
      run := if d.getLsbD 0 = true ∧ s.run = .idle then .ticking else s.run
      ind := d.getLsbD 1
      fie := d.getLsbD 2
      rdata := none } ∧
    t.irq = (s.frame && d.getLsbD 2)

/-- R220: what STATUS_RD returns, bit by bit; no state changes, `frame` is not consumed. -/
def Obligations.StatusReadValue : Prop :=
  ∀ (d : Byte) (s : State), ∃ v : Byte,
    exec (.statusRd d) s = .next { s with rdata := some v } ∧
    v.getLsbD 0 = s.frame ∧ v.getLsbD 1 = decide (s.run = .ticking) ∧
    v.getLsbD 2 = (s.frame && s.fie) ∧ v.extractLsb' 3 5 = 0#5

/-- R222: FRAMETAKE_RD returns `frame` and clears it; `irq` falls, and nothing else changes. -/
def Obligations.FrametakeTestsAndClears : Prop :=
  ∀ (d : Byte) (s : State), ∃ t,
    exec (.frametakeRd d) s = .next t ∧
    t = { s with frame := false, rdata := some (if s.frame then 0x01#8 else 0x00#8) } ∧
    t.irq = false

/-- R200, R201, R202: the read-only registers LAYER, TICKCNT and FRAMEDIV read the layer index, the
counter and the machine's constant FRAME_DIV, 0x18 in the standard build; no state changes. -/
def Obligations.ReadOnlyRegistersRead : Prop :=
  (∀ (d : Byte) (s : State),
    exec (.layerRd d) s = .next { s with rdata := some (0#6 ++ s.layer) } ∧
    exec (.tickcntRd d) s = .next { s with rdata := some s.tcnt } ∧
    exec (.framedivRd d) s = .next { s with rdata := some s.params.frameDiv }) ∧
  ∀ d : Byte, exec (.framedivRd d) State.reset = .next { State.reset with rdata := some 0x18#8 }

/-- R203, R206, R207, R221, R223: a write to a read-only register completes and changes no state (it
returns nothing). -/
def Obligations.WritesToReadOnlyDoNothing : Prop :=
  ∀ (d : Byte) (s : State),
    exec (.layerWr d) s = .next { s with rdata := none } ∧
    exec (.tickcntWr d) s = .next { s with rdata := none } ∧
    exec (.framedivWr d) s = .next { s with rdata := none } ∧
    exec (.statusWr d) s = .next { s with rdata := none } ∧
    exec (.frametakeWr d) s = .next { s with rdata := none }

/-- R204, R205: a read of a reserved address returns 0x00, a write to one does nothing. -/
def Obligations.ReservedAddressesAreInert : Prop :=
  ∀ (a : Addr) (d : Byte) (s : State),
    exec (.rsvdRd16 a d) s = .next { s with rdata := some 0x00#8 } ∧
    exec (.rsvdRd18 a d) s = .next { s with rdata := some 0x00#8 } ∧
    exec (.rsvdRd20 a d) s = .next { s with rdata := some 0x00#8 } ∧
    exec (.rsvdWr16 a d) s = .next { s with rdata := none } ∧
    exec (.rsvdWr18 a d) s = .next { s with rdata := none } ∧
    exec (.rsvdWr20 a d) s = .next { s with rdata := none }

/-! ### The register space as a whole (20_memory.md) -/

/-- R64: a FRAMETAKE read is the only read with a side effect, and it clears `frame`; any other read
repeated returns the same value; a write done twice leaves what it leaves once. -/
def Obligations.SideEffectsOfTransactions : Prop :=
  (∀ (a : Addr) (s : State), ∃ t u,
    hostRead a s = .next t ∧ hostRead a t = .next u ∧
    t = { s with rdata := t.rdata, frame := if a = 0x14#7 then false else s.frame } ∧
    (a ≠ 0x14#7 → u.rdata = t.rdata) ∧
    (a = 0x14#7 → s.frame = true → t.rdata = some 0x01#8 ∧ u.rdata = some 0x00#8)) ∧
  ∀ (a : Addr) (d : Byte) (s : State), ∃ t,
    hostWrite a d s = .next t ∧ hostWrite a d t = .next t

/-- Every read returns what the register space shows at its address (R61, R65, R94). -/
def Obligations.ReadsShowTheRegisterSpace : Prop :=
  ∀ (a : Addr) (s : State), ∃ t, hostRead a s = .next t ∧ t.rdata = some (s.peek a)

/-- The frame of the writes in the register space: a ROW write changes what its own address and its
row's four voxel addresses read, a VOX write its own and its row's, a CTRL write CTRL and STATUS,
any other write none. -/
def Obligations.WritesLeaveOtherAddresses : Prop :=
  (∀ (z y : Coord) (d : Byte) (s t : State), hostWrite (rowAddr z y) d s = .next t →
    ∀ b : Addr, b ≠ rowAddr z y → (∀ x : Coord, b ≠ voxAddr z y x) → t.peek b = s.peek b) ∧
  (∀ (z y x : Coord) (d : Byte) (s t : State), hostWrite (voxAddr z y x) d s = .next t →
    ∀ b : Addr, b ≠ rowAddr z y → b ≠ voxAddr z y x → t.peek b = s.peek b) ∧
  (∀ (d : Byte) (s t : State), hostWrite 0x10#7 d s = .next t →
    ∀ b : Addr, b ≠ 0x10#7 → b ≠ 0x11#7 → t.peek b = s.peek b) ∧
  (∀ (a : Addr) (d : Byte) (s t : State), 0x11 ≤ a.toNat → a.toNat ≤ 0x3F →
    hostWrite a d s = .next t → ∀ b : Addr, t.peek b = s.peek b)

/-- Every transaction completes in every state, and none writes what the ENGINE and the inputs own:
the layer index, the counter, the driven pins, the tick in progress, its latch and its trace, nor
the machine's parameters. -/
def Obligations.TransactionsLeaveTheEngine : Prop :=
  ∀ (i : Instr) (s : State), ∃ t, exec i s = .next t ∧
    t.layer = s.layer ∧ t.tcnt = s.tcnt ∧ t.pins = s.pins ∧ t.engine = s.engine ∧
    t.tickPending = s.tickPending ∧ t.trace = s.trace ∧ t.port = s.port ∧ t.inputs = s.inputs ∧
    t.params = s.params

/-! ### The step -/

/-- R250: no step, whatever arrives, ends in a fault or a refusal. -/
def Obligations.NoStepStops : Prop :=
  ∀ s : State, ∃ t, step s = .next t

/-- Between ticks, with no reset and no accepted strobe in the slot, the step performs the oldest
transaction issued, exactly as `exec` says; with none issued LCRE waits. That several may have been
issued and the oldest goes first is the model's (log entry 5); so is that a strobe in the slot of a
transaction served while Idle, an arming write among them, is ignored (log entry 11). -/
def Obligations.StepPerformsThePortWord : Prop :=
  ∀ s : State, s.slot.reset = false → s.engine = .quiet →
    (s.slot.tick = false ∨ s.run = .idle) →
    (∀ (w : Word16) (ws : List Word16), s.port ++ s.slot.host.toList = w :: ws →
      step s = exec (decode w) { s with inputs := s.inputs.tail, port := ws }) ∧
    (s.port ++ s.slot.host.toList = [] → step s = .next { s with inputs := s.inputs.tail })

/-- A word placed by `withFetchWord` is the one the next step performs. -/
def Obligations.PlacedWordIsPerformedNext : Prop :=
  ∀ (s : State) (nbits w : Nat), nbits ≤ 16 → w < 2 ^ nbits → ∃ i,
    decodeTableWord nbits w = some i ∧
    step (s.withFetchWord nbits w) = exec i { s with engine := .quiet }

/-- R191: a strobe while Idle changes no state, drives no pin and is not latched. -/
def Obligations.IdleStrobeIsIgnored : Prop :=
  ∀ s : State, s.run = .idle →
    s.tick = s ∧
    (s.slot.reset = false → s.engine = .quiet → s.port = [] → s.slot.host = none →
      step s = .next { s with inputs := s.inputs.tail })

/-- R254: when a strobe and a transaction are ready together, the tick goes first and the
transaction stays on the port. -/
def Obligations.TickGoesFirst : Prop :=
  ∀ s : State, s.slot.reset = false → s.engine = .quiet → s.slot.tick = true →
    s.run = .ticking → ∃ t, step s = .next t ∧ t.layer = s.layer + 1 ∧
      t.engine = .driving (tickScript t.layer (s.row t.layer)) ∧
      t.port = s.port ++ s.slot.host.toList ∧ t.rdata = s.rdata ∧ t.buf = s.buf ∧
      t.pins = s.pins ∧ t.tcnt = s.tcnt ∧ t.frame = s.frame

/-- R71, R197, R254: while `busy` no transaction is performed; those issued stay on the port. So it is
in every step of a tick but the one in which `busy` falls with no tick pending, which serves the port
(R258). That several may be held, in the order in which they were issued, is the model's (log
entry 5); so is that a strobe in the step that ends a tick counts as pending (log entry 11). -/
def Obligations.HostStallsWhileBusy : Prop :=
  ∀ s : State, s.busy = true → s.slot.reset = false →
    (s.engine = .driving [] → s.tickPending = true ∨ s.slot.tick = true) → ∃ t, step s = .next t ∧
    t.port = s.port ++ s.slot.host.toList ∧ t.rdata = s.rdata ∧ t.buf = s.buf ∧
    t.run = s.run ∧ t.ind = s.ind ∧ t.fie = s.fie ∧ (s.frame = true → t.frame = true)

/-- R196, R258: a strobe during a tick is latched one deep and runs as soon as the tick ends, before
any held transaction; without one `busy` falls and the port is served at once, the oldest transaction
held going first. That a tick ends in a step of its own, after its last pin event, is the model's
grain (log entry 8), that a strobe in that step still counts as one during the tick is its choice
(log entry 11), and so is that several transactions may be held (log entry 5). -/
def Obligations.StrobeDuringTickIsLatched : Prop :=
  ∀ s : State, s.slot.reset = false →
    (∀ (e : PinEvent) (rest : List PinEvent), s.engine = .driving (e :: rest) →
      ∃ t, step s = .next t ∧ t.tickPending = (s.tickPending || s.slot.tick) ∧
        t.engine = .driving rest ∧ t.layer = s.layer ∧ t.tcnt = s.tcnt ∧ t.frame = s.frame ∧
        t.pins = s.pins.drive e ∧ t.trace = s.trace ++ [e]) ∧
    (s.engine = .driving [] → s.run = .ticking → s.tickPending = true ∨ s.slot.tick = true →
      ∃ t, step s = .next t ∧ t.tickPending = false ∧ t.layer = s.layer + 1 ∧
        t.engine = .driving (tickScript t.layer (s.row t.layer)) ∧
        t.port = s.port ++ s.slot.host.toList ∧ t.rdata = s.rdata ∧ t.pins = s.pins) ∧
    (s.engine = .driving [] → s.tickPending = false → s.slot.tick = false → ∃ u,
      u = { s with engine := .quiet, tcnt := u.tcnt, frame := u.frame, inputs := s.inputs.tail,
                   port := s.port ++ s.slot.host.toList } ∧
      (u.port = [] → step s = .next u) ∧
      ∀ (w : Word16) (ws : List Word16), u.port = w :: ws →
        step s = exec (decode w) { u with port := ws })

/-- R197, R258, R301: a transaction held is performed at the end of the tick in progress, or at the
end of one pending tick, and nothing that comes in the slots after that delays it. In the second case
no strobe may come during the pending tick: the model's reading of the bound (log entry 6). The step
counts are the model's grain (log entry 8), that a strobe in the step that ends the tick starts the
pending tick is its choice (log entry 11), and so is that several transactions may be held, the
oldest served first (log entry 5). -/
def Obligations.StallIsBounded : Prop :=
  ∀ (s : State) (rest : List PinEvent) (now pending later : List Slot),
    s.engine = .driving rest → s.run = .ticking → now.length = rest.length + 1 →
    (∀ i ∈ now, i.reset = false) →
    (s.inputs = now ++ later → s.tickPending = false → (∀ i ∈ now, i.tick = false) → ∃ u,
      u.engine = .quiet ∧ u.port = s.port ++ (now.flatMap fun i => i.host.toList) ∧
      u.inputs = later ∧ u.buf = s.buf ∧ u.rdata = s.rdata ∧
      (u.port = [] → core.run (rest.length + 1) s = .next u) ∧
      ∀ (w : Word16) (ws : List Word16), u.port = w :: ws →
        core.run (rest.length + 1) s = exec (decode w) { u with port := ws }) ∧
    (s.inputs = now ++ pending ++ later → s.tickPending = true ∨ (∃ i ∈ now, i.tick = true) →
      pending.length = 27 → (∀ i ∈ pending, i.reset = false ∧ i.tick = false) → ∃ u,
      u.engine = .quiet ∧ u.port = s.port ++ ((now ++ pending).flatMap fun i => i.host.toList) ∧
      u.inputs = later ∧ u.buf = s.buf ∧ u.rdata = s.rdata ∧
      (u.port = [] → core.run (rest.length + 28) s = .next u) ∧
      ∀ (w : Word16) (ws : List Word16), u.port = w :: ws →
        core.run (rest.length + 28) s = exec (decode w) { u with port := ws })

/-! ### Serial driver and multiplexer (41, 42) -/

/-- R150: the 24 pin events of SHIFT_LAYER, each in its place. -/
def Obligations.ShiftLayerEvents : Prop :=
  ∀ r : Coord → Row, (shiftLayer r).length = 24 ∧
    ∀ i < 4,
      (shiftLayer r)[3 * i]? = some (.data ((r 2).getLsbD i) ((r 0).getLsbD i)) ∧
      (shiftLayer r)[3 * i + 1]? = some .clkRise ∧
      (shiftLayer r)[3 * i + 2]? = some .clkFall ∧
      (shiftLayer r)[12 + 3 * i]? = some (.data ((r 3).getLsbD i) ((r 1).getLsbD i)) ∧
      (shiftLayer r)[12 + 3 * i + 1]? = some .clkRise ∧
      (shiftLayer r)[12 + 3 * i + 2]? = some .clkFall

/-- R159: what the two chains hold after one SHIFT_LAYER, whatever they held and the pins were
before, stage by stage, and R159's example. -/
def Obligations.ChainsAfterShift : Prop :=
  (∀ (r : Coord → Row) (p : Pins) (c : Chains),
    observe p c (shiftLayer r) = { a := rev4 (r 2) ++ rev4 (r 3), b := rev4 (r 0) ++ rev4 (r 1) } ∧
    ∀ i < 4,
      (observe p c (shiftLayer r)).a.getLsbD (7 - i) = (r 2).getLsbD i ∧
      (observe p c (shiftLayer r)).a.getLsbD (3 - i) = (r 3).getLsbD i ∧
      (observe p c (shiftLayer r)).b.getLsbD (7 - i) = (r 0).getLsbD i ∧
      (observe p c (shiftLayer r)).b.getLsbD (3 - i) = (r 1).getLsbD i) ∧
  ∀ (r : Coord → Row) (p : Pins) (c : Chains),
    r 0 = 0b0101#4 → r 1 = 0b0011#4 → r 2 = 0b1000#4 → r 3 = 0b0110#4 →
    observe p c (shiftLayer r) = { a := 0x16#8, b := 0xAC#8 }

/-- R171, R172, R173, in the pin sequence: every LE event drives 0 or a one-hot mask, the first
event disables all layers, they stay disabled through every event up to the 8th CLK_FALL, and the
event right after it, the last, enables the new layer alone. -/
def Obligations.LayersAreDarkWhileShifting : Prop :=
  ∀ (l : Coord) (r : Coord → Row) (p : Pins),
    (∀ m, PinEvent.le m ∈ tickScript l r → m = 0#4 ∨ m = onehot l) ∧
    (tickScript l r).length = 26 ∧ (tickScript l r)[0]? = some (.le 0#4) ∧
    (tickScript l r)[24]? = some .clkFall ∧ (tickScript l r).count .clkFall = 8 ∧
    (tickScript l r)[25]? = some (.le (onehot l)) ∧
    (∀ k, 1 ≤ k → k ≤ 25 → (p.driveAll ((tickScript l r).take k)).le = 0#4) ∧
    (p.driveAll (tickScript l r)).le = onehot l

/-- R177: a tick reads the four rows of the layer it displays and no others, and writes none: with
any other buffer that holds the same four rows it does the same and leaves that buffer. -/
def Obligations.TickReadsOnlyItsLayer : Prop :=
  ∀ (s : State) (b : Vector (Vector Row 4) 4),
    (∀ y : Coord, ({ s with buf := b } : State).row (s.layer + 1) y = s.row (s.layer + 1) y) →
    State.tick { s with buf := b } = { s.tick with buf := b } ∧ s.tick.buf = s.buf

/-- R176: over any 4 consecutive ticks each layer is displayed exactly once, and the index is back
where it was. -/
def Obligations.FourTicksShowEachLayerOnce : Prop :=
  ∀ s : State, s.run = .ticking → ∀ z : Coord,
    (s.tick.trace ++ s.tick.tick.trace ++ s.tick.tick.tick.trace ++
      s.tick.tick.tick.tick.trace).count (.le (onehot z)) = 1 ∧
    s.tick.tick.tick.tick.layer = s.layer

/-- R74, R151, R152: what a ROW or VOX write stored goes out in the tick that displays its layer, on
its row's line, in its row's phase, least significant bit first, whatever ticks and transactions but
a write to the same row come between; and on a Ticking block that is at most the fourth tick, with
any transactions between the ticks. -/
def Obligations.WrittenRowReachesItsLine : Prop :=
  (∀ (z y : Coord) (d : Byte) (es : List TxnEvent) (s s1 s2 : State),
    hostWrite (rowAddr z y) d s = .next s1 → (∀ e ∈ es, e ≠ .reset ∧ e.writesRow z y = false) →
    runEvents es s1 = .next s2 → s2.run = .ticking → s2.layer + 1 = z → ∀ i < 4, ∃ a b,
      s2.tick.trace[1 + (if y.getLsbD 0 then 12 else 0) + 3 * i]? = some (.data a b) ∧
      (if y.getLsbD 1 then a else b) = d.getLsbD i) ∧
  (∀ (z y x : Coord) (d : Byte) (es : List TxnEvent) (s s1 s2 : State),
    hostWrite (voxAddr z y x) d s = .next s1 → (∀ e ∈ es, e ≠ .reset ∧ e.writesRow z y = false) →
    runEvents es s1 = .next s2 → s2.run = .ticking → s2.layer + 1 = z → ∃ a b,
      s2.tick.trace[1 + (if y.getLsbD 0 then 12 else 0) + 3 * x.toNat]? = some (.data a b) ∧
      (if y.getLsbD 1 then a else b) = d.getLsbD 0) ∧
  ∀ (z : Coord) (es : List TxnEvent) (s : State),
    s.run = .ticking → (∀ e ∈ es, e ≠ .reset) → 4 ≤ tickCount es → ∃ sofar rest u,
      es = sofar ++ .tick :: rest ∧ tickCount sofar < 4 ∧
      runEvents sofar s = .next u ∧ u.run = .ticking ∧ u.layer + 1 = z

/-- The picture: after a tick, whatever the chains held, the voxel stages shine exactly as the
buffer's voxels of the layer displayed, and the LED of a layer and column is on exactly when that
layer is displayed and a voxel of it that feeds the column is on (R159, R170, R175; the wiring is
the OPEN parameter, the LED's condition the model's, log entry 2). -/
def Obligations.PictureIsTheBuffer : Prop :=
  ∀ (s : State) (c : Chains), s.run = .ticking →
    (∀ z y x : Coord,
      (s.tick.pins.le.getLsbD z.toNat && (observe s.pins c s.tick.trace).stage y x) =
        (decide (z = s.layer + 1) && s.voxel z y x)) ∧
    ∀ (z : Coord) (col : Nat),
      ledOn s.tick.pins (observe s.pins c s.tick.trace) z col = true ↔
        z = s.layer + 1 ∧
          ∃ y x : Coord, Config.wiring (y.getLsbD 1) (stageIndex y x) = col ∧ s.voxel z y x = true

/-! ### The tick (43) -/

/-- R193, for every machine: what a tick while Ticking does, field by field; a tick while Idle does
nothing; the standard build counts to 24. -/
def Obligations.TickEffect : Prop :=
  (∀ s : State, s.run = .ticking → s.tcnt.toNat < s.params.frameDiv.toNat → ∃ t,
    s.tick = t ∧
    t.layer.toNat = (s.layer.toNat + 1) % 4 ∧
    t.trace = tickScript t.layer (s.row t.layer) ∧
    t.pins = { dataA := (s.row t.layer 3).getLsbD 3, dataB := (s.row t.layer 1).getLsbD 3,
               sclk := false, le := onehot t.layer } ∧
    t.tcnt.toNat =
      (if s.tcnt.toNat + 1 = s.params.frameDiv.toNat then 0 else s.tcnt.toNat + 1) ∧
    t.frame = (s.frame || decide (s.tcnt.toNat + 1 = s.params.frameDiv.toNat)) ∧
    t.irq = (t.frame && s.fie) ∧
    t = { s with layer := t.layer, trace := t.trace, pins := t.pins, tcnt := t.tcnt,
                 frame := t.frame }) ∧
  (∀ s : State, s.run = .idle → s.tick = s) ∧ State.reset.params.frameDiv.toNat = 24

/-- The pin-level machine runs TICK(): an accepted strobe, followed by 27 steps with no reset and no
strobe, leaves exactly what TICK() leaves in one event, with whatever the host issued meanwhile held
on the port, and, as `busy` falls, the oldest transaction held performed on it (R258). That a tick is
28 steps is the model's grain (log entry 8); that several transactions may be held, in order, is its
choice (log entry 5). -/
def Obligations.PinLevelTickIsTick : Prop :=
  ∀ (s : State) (a : Slot) (hs rest : List Slot),
    s.engine = .quiet → s.run = .ticking → s.tickPending = false →
    s.inputs = (a :: hs) ++ rest → a.reset = false → a.tick = true → hs.length = 27 →
    (∀ h ∈ hs, h.reset = false ∧ h.tick = false) → ∃ u,
    u = { s.tick with
      inputs := rest
      port := s.port ++ (a :: hs).flatMap fun h => h.host.toList } ∧
    (u.port = [] → core.run 28 s = .next u) ∧
    ∀ (w : Word16) (ws : List Word16), u.port = w :: ws →
      core.run 28 s = exec (decode w) { u with port := ws }

/-- R195: boundaries merge. From a Ticking block, over any transactions but a FRAMETAKE read and any
ticks, `frame` is 1 exactly if it was or a boundary happened; then one FRAMETAKE read consumes them
all. The counter counts the ticks modulo the machine's FRAME_DIV. -/
def Obligations.BoundariesMerge : Prop :=
  ∀ (es : List TxnEvent) (s : State), s.run = .ticking →
    s.tcnt.toNat < s.params.frameDiv.toNat → (∀ e ∈ es, e ≠ .reset ∧ e.isTake = false) → ∃ t u u',
      runEvents es s = .next t ∧
      t.tcnt.toNat = (s.tcnt.toNat + tickCount es) % s.params.frameDiv.toNat ∧
      t.frame = (s.frame || decide (s.params.frameDiv.toNat ≤ s.tcnt.toNat + tickCount es)) ∧
      applyEvent (.host takeWord) t = .next u ∧
      u.rdata = some (if t.frame then 0x01#8 else 0x00#8) ∧
      applyEvent (.host takeWord) u = .next u' ∧ u'.rdata = some 0x00#8

/-- R209: the closed form, for every machine. From reset, through any ticks and transactions that do
not arm, one CTRL write that arms, then any events but a reset (split after the last FRAMETAKE
read): the layer, the counter and the frame flag as functions of the number of ticks since the
arming. -/
def Obligations.ClosedFormOfTicks : Prop :=
  ∀ (p : Params) (before upTo since : List TxnEvent) (w : Word16), p.legal →
    (∀ e ∈ before, e ≠ .reset ∧ e.isArm = false) → (TxnEvent.host w).isArm = true →
    (∀ e ∈ upTo ++ since, e ≠ .reset) →
    (upTo = [] ∨ ∃ es e, upTo = es ++ [e] ∧ e.isTake = true) →
    (∀ e ∈ since, e.isTake = false) → ∃ t,
      runEvents (before ++ .host w :: (upTo ++ since)) (State.resetWith p) = .next t ∧
      t.layer.toNat = (p.resetLayer.toNat + tickCount (upTo ++ since)) % 4 ∧
      t.tcnt.toNat = tickCount (upTo ++ since) % p.frameDiv.toNat ∧
      (t.frame = true ↔
        tickCount upTo / p.frameDiv.toNat < tickCount (upTo ++ since) / p.frameDiv.toNat)

/-- R190: no event but RESET leaves Ticking, only a CTRL write with DATA[0] = 1 enters it, and
arming starts no tick by itself, in any state that meets the invariant. That a strobe in the very
slot of the arming write is ignored, so that no tick starts there either, is the model's (log
entry 11). -/
def Obligations.ArmingIsOneWay : Prop :=
  ∀ s t : State, step s = .next t → s.slot.reset = false →
    (s.run = .ticking → t.run = .ticking) ∧
    (s.run = .idle → (t.run = .ticking ↔ ∃ w, s.commits = some (.host w) ∧
      (TxnEvent.host w).isArm = true)) ∧
    (Inv s → s.run = .idle → t.run = .ticking → t.engine = .quiet ∧ t.layer = s.layer ∧
      t.tcnt = s.tcnt ∧ t.frame = s.frame ∧ t.buf = s.buf ∧ t.pins = s.pins)

/-! ### Whole-machine rules -/

/-- R77: who writes what. Outside a reset, the buffer changes only where a ROW or VOX write is
performed, the layer only where a tick starts, the counter only where a tick ends; `frame` is set
only where a tick ends and cleared only by a FRAMETAKE read; `run`, `ind` and `fie` change only by a
CTRL write. Nothing changes the machine's parameters. -/
def Obligations.SingleWriters : Prop :=
  ∀ s t : State, step s = .next t → s.slot.reset = false →
    t.params = s.params ∧
    (t.buf ≠ s.buf → ∃ w, s.commits = some (.host w) ∧ wordWrite w = true ∧
      ((wordAddr w).toNat < 0x10 ∨ 0x40 ≤ (wordAddr w).toNat)) ∧
    (t.layer ≠ s.layer → s.commits = some .tick) ∧
    (t.tcnt ≠ s.tcnt → s.engine = .driving []) ∧
    (s.frame = false → t.frame = true → s.engine = .driving []) ∧
    (s.frame = true → t.frame = false → ∃ w, s.commits = some (.host w) ∧
      (TxnEvent.host w).isTake = true) ∧
    (t.run ≠ s.run ∨ t.ind ≠ s.ind ∨ t.fie ≠ s.fie → ∃ w, s.commits = some (.host w) ∧
      wordWrite w = true ∧ wordAddr w = 0x10#7)

/-- R225: when `irq` rises and when it falls, outside a reset: exactly then. At the transaction level
event by event; at the pin level step by step, where the step that ends a tick may perform a held
transaction too (log entry 8): a boundary raises `irq` for the next step unless that transaction
takes or masks it. -/
def Obligations.IrqRisesAndFalls : Prop :=
  (∀ (e : TxnEvent) (s t : State), applyEvent e s = .next t → e ≠ .reset →
    (s.irq = false → (t.irq = true ↔
      (e = .tick ∧ s.run = .ticking ∧ s.fie = true ∧
        s.tcnt.toNat + 1 = s.params.frameDiv.toNat) ∨
      ∃ w, e = .host w ∧ wordWrite w = true ∧ wordAddr w = 0x10#7 ∧
        (wordData w).getLsbD 2 = true ∧ s.frame = true)) ∧
    (s.irq = true → (t.irq = false ↔ ∃ w, e = .host w ∧
      ((TxnEvent.host w).isTake = true ∨
        (wordWrite w = true ∧ wordAddr w = 0x10#7 ∧ (wordData w).getLsbD 2 = false))))) ∧
  ∀ s t : State, step s = .next t → s.slot.reset = false →
    (s.irq = false → (t.irq = true ↔
      (s.engine = .driving [] ∧ s.fie = true ∧ s.tcnt.toNat + 1 = s.params.frameDiv.toNat ∧
        ∀ w, s.commits = some (.host w) → (TxnEvent.host w).isTake = false ∧
          (wordWrite w = true → wordAddr w = 0x10#7 → (wordData w).getLsbD 2 = true)) ∨
      ∃ w, s.commits = some (.host w) ∧ wordWrite w = true ∧ wordAddr w = 0x10#7 ∧
        (wordData w).getLsbD 2 = true ∧
        (s.frame = true ∨
          s.engine = .driving [] ∧ s.tcnt.toNat + 1 = s.params.frameDiv.toNat))) ∧
    (s.irq = true → (t.irq = false ↔ ∃ w, s.commits = some (.host w) ∧
      ((TxnEvent.host w).isTake = true ∨
        (wordWrite w = true ∧ wordAddr w = 0x10#7 ∧ (wordData w).getLsbD 2 = false))))

/-- R39, R40, R41, R175: the levels of the `irq`, `ind` and layer-enable pins, under both
polarities; the standard build is active high. -/
def Obligations.OutputPinLevels : Prop :=
  (∀ s : State, (s.irq = true ↔ s.frame = true ∧ s.fie = true) ∧ s.indPin = s.ind ∧
    ∀ z : Coord, s.lePin z = (s.pins.le.getLsbD z.toNat == s.params.leActiveHigh)) ∧
  State.reset.params.leActiveHigh = true

/-- R46: the reset values, for every machine; the standard build has `RESET_LAYER` = 0. -/
def Obligations.ResetValues : Prop :=
  (∀ p : Params,
    (∀ z y : Coord, (State.resetWith p).row z y = p.initRow z y) ∧
    (State.resetWith p).layer = p.resetLayer ∧ (State.resetWith p).tcnt = 0#8 ∧
    (State.resetWith p).frame = false ∧ (State.resetWith p).run = .idle ∧
    (State.resetWith p).ind = false ∧ (State.resetWith p).fie = false ∧
    (State.resetWith p).pins.le = 0b0000#4 ∧ (State.resetWith p).pins.dataA = false ∧
    (State.resetWith p).pins.dataB = false ∧ (State.resetWith p).pins.sclk = false ∧
    (State.resetWith p).irq = false ∧ (State.resetWith p).busy = false ∧
    (State.resetWith p).tickPending = false) ∧
  State.reset.layer = 0#2

/-- R255, R290, R292: a reset, whatever else is in the slot and even inside a tick, leaves the
machine's reset state at once; held transactions are discarded. That the trace and the response are
empty then, that a transaction issued in the slot of the reset is discarded too, and that the inputs
to come stay are the model's (log entries 3, 4, 5). -/
def Obligations.ResetFromAnyState : Prop :=
  ∀ s : State, s.slot.reset = true → ∃ t, step s = .next t ∧
    t = { State.resetWith s.params with inputs := s.inputs.tail } ∧
    t.peek 0x10#7 = 0x00#8 ∧ t.peek 0x11#7 = 0x00#8 ∧
    t.peek 0x12#7 = s.params.resetLayer.setWidth 8 ∧
    t.peek 0x13#7 = 0x00#8 ∧ t.peek 0x14#7 = 0x00#8 ∧ t.port = [] ∧ t.engine = .quiet ∧
    ∀ z y : Coord, t.peek (rowAddr z y) = (s.params.initRow z y).setWidth 8

/-- The invariant holds at reset, for every machine whose FRAME_DIV is in range and whatever is to
come; the standard build is such a machine. -/
def Obligations.InvariantAtReset : Prop :=
  (∀ (p : Params) (ins : List Slot), p.legal → Inv { State.resetWith p with inputs := ins }) ∧
  Config.standard.legal ∧ Inv State.reset

/-- Every step keeps the invariant. -/
def Obligations.StepKeepsInvariant : Prop :=
  ∀ s t : State, Inv s → step s = .next t → Inv t

/-- R171, as a rule of every step of a state that meets the invariant: at most one layer is enabled,
and a change of the enables passes through "all disabled". -/
def Obligations.LayersNeverOverlap : Prop :=
  ∀ s t : State, Inv s → step s = .next t →
    AtMostOneLayer s.pins.le ∧ AtMostOneLayer t.pins.le ∧
    (s.pins.le ≠ t.pins.le → s.pins.le = 0#4 ∨ t.pins.le = 0#4)

/-- R153, R173, as a rule of every step of a state that meets the invariant: outside a reset the
data lines change only while the clock is low, and data and clock change only while every layer is
disabled. -/
def Obligations.LinesChangeOnlyInTheDark : Prop :=
  ∀ s t : State, Inv s → step s = .next t → s.slot.reset = false →
    (t.pins.dataA ≠ s.pins.dataA ∨ t.pins.dataB ≠ s.pins.dataB →
      s.pins.sclk = false ∧ t.pins.sclk = false ∧ s.pins.le = 0#4 ∧ t.pins.le = 0#4) ∧
    (t.pins.sclk ≠ s.pins.sclk → s.pins.le = 0#4 ∧ t.pins.le = 0#4)

/-- R174: between ticks, in every run from reset with no further reset, of every machine whose
FRAME_DIV is in range, the layer last displayed is enabled alone once a tick has run, and no layer
before that. -/
def Obligations.OneLayerBetweenTicks : Prop :=
  ∀ (p : Params) (k : Nat) (ins : List Slot) (es : List TxnEvent) (t : State),
    p.legal → (∀ i ∈ ins, i.reset = false) →
    runSteps k { State.resetWith p with inputs := ins } = some (es, t) → t.engine = .quiet →
    t.pins.le = if TxnEvent.tick ∈ es then onehot t.layer else 0#4

/-- The pin-level machine refines the transaction level (R70, R71): in every run of it the events it
performs, one after another, lead from what the first state reads as at the transaction level to
what the last reads as. That a tick which a reset abandons is among them, whole, before the reset, is
the model's (log entry 17; R292). -/
def Obligations.RunsRefineTransactions : Prop :=
  ∀ (k : Nat) (s t : State) (es : List TxnEvent),
    runSteps k s = some (es, t) → runEvents es s.settle = .next t.settle

/-! ### The host's procedures (44) -/

/-- R227: FRAMESYNC(0) issues no transaction and a pending `frame` stays pending, under every
schedule without a reset. -/
def Obligations.FramesyncZeroDoesNothing : Prop :=
  ∀ (p : System) (ts : List Turn), p.prog = framesync 0 → Turn.reset ∉ ts →
    (p.runTurns ts).prog = .skip ∧
    (∃ l, (p.runTurns ts).log = p.log ++ l ∧ ∀ h ∈ l, h.isXact = false) ∧
    (p.lcre.frame = true → (p.runTurns ts).lcre.frame = true)

/-- R229 (1)-(3), for the polling form and the low-power form (R231), under every schedule without a
reset: when FRAMESYNC(n) has returned, after its first, discarding read exactly n of its reads
returned 1, and at least n boundaries happened after that read. -/
def Obligations.FramesyncConsumesExactlyN : Prop :=
  ∀ (poll : HostCmd) (n : Nat) (s : State) (v : Byte) (ts : List Turn),
    poll = pollFrame ∨ poll = pollFrameIrq → 1 ≤ n → Turn.reset ∉ ts →
    let p : System :=
      System.runTurns { lcre := s, prog := framesyncWith poll n, v := v, log := [] } ts
    p.prog = .skip → ∃ pre v0 post,
      p.log = pre ++ .xact takeWord (some v0) :: post ∧ (∀ h ∈ pre, h.isXact = false) ∧
      post.countP Happening.consumed = n ∧ n ≤ post.countP Happening.isBoundary

/-- R230: on an Idle block FRAMESYNC(n), n at least 1, never returns, under any schedule without a
reset; the block stays Idle. -/
def Obligations.FramesyncHangsWhileIdle : Prop :=
  ∀ (poll : HostCmd) (n : Nat) (s : State) (v : Byte) (ts : List Turn),
    poll = pollFrame ∨ poll = pollFrameIrq → 1 ≤ n → Turn.reset ∉ ts → s.run = .idle →
    let p : System :=
      System.runTurns { lcre := s, prog := framesyncWith poll n, v := v, log := [] } ts
    p.prog ≠ .skip ∧ p.lcre.run = .idle

/-- R229 (5), its bound: on a Ticking block, with the host given a turn before the first tick and
enough turns for a poll between any two boundaries, FRAMESYNC(n) returns within n * FRAME_DIV ticks
of its first read, in both forms (R231). `hs` says how many turns the host is given after each tick:
any number, but after a boundary at least 8 for the polling form and 10 for the low-power form, what
a poll and the return take in the model's grain of a turn (log entry 12). -/
def Obligations.FramesyncReturnsInTime : Prop :=
  ∀ (poll : HostCmd) (few n h0 : Nat) (hs : List Nat) (s : State) (v : Byte),
    (poll = pollFrame ∧ few = 8) ∨ (poll = pollFrameIrq ∧ few = 10 ∧ s.fie = true) →
    s.run = .ticking → s.tcnt.toNat < s.params.frameDiv.toNat → 1 ≤ h0 →
    hs.length = n * s.params.frameDiv.toNat →
    (∀ (k h : Nat), hs[k]? = some h →
      (s.tcnt.toNat + k + 1) % s.params.frameDiv.toNat = 0 → few ≤ h) →
    (System.runTurns { lcre := s, prog := framesyncWith poll n, v := v, log := [] }
      (List.replicate h0 .host ++ hs.flatMap fun h => .tick :: List.replicate h .host)).prog = .skip

/-- R192, R229 (5): progress. In every infinite run of a block that is Ticking from some moment on,
frame boundaries happen again and again; at the pin level the same assumption holds of every run in
which strobes keep arriving; and FRAMESYNC(n), in both forms, terminates on a Ticking block under
every schedule without a reset that keeps the progress assumption and lets the host go on. -/
def Obligations.ProgressEndsTheWait : Prop :=
  (∀ (s : Nat → State) (es : Nat → TxnEvent), IsRun s es →
    (s 0).tcnt.toNat < (s 0).params.frameDiv.toNat →
    (∃ m, ∀ k, m ≤ k → (s k).run = .ticking) →
    ∀ m, ∃ k, m ≤ k ∧ es k = .tick ∧ isBoundary (s k).params.frameDiv (s k).tcnt = true) ∧
  (∀ (s : Nat → State) (arrivals : Nat → Slot),
    (∀ k, step ((s k).given (arrivals k)) = .next (s (k + 1))) →
    (∀ m, ∃ k, m ≤ k ∧ (arrivals k).tick = true) → IsPinRun s arrivals) ∧
  ∀ (poll : HostCmd) (n : Nat) (s : State) (v : Byte) (sched : Nat → Turn),
    poll = pollFrame ∨ (poll = pollFrameIrq ∧ s.fie = true) → s.run = .ticking →
    s.tcnt.toNat < s.params.frameDiv.toNat → (∀ k, sched k ≠ .reset) →
    let p : System := { lcre := s, prog := framesyncWith poll n, v := v, log := [] }
    p.Fair sched → ∃ k, (p.after sched k).prog = .skip

/-- R228, for every machine and every schedule without a reset: when INIT has returned, its first
transaction was the arming write, its last the write that turns the indicator on, only FRAMETAKE
reads lie between them, and at least WARMUP_FRAMES boundaries happened between them, 5 in the
standard build; the block is Ticking with the indicator on and the frame interrupt off. -/
def Obligations.InitArmsWaitsAndIndicates : Prop :=
  (∀ (s : State) (v : Byte) (ts : List Turn), Turn.reset ∉ ts →
    let p : System := System.runTurns { lcre := s, prog := initProc s.params, v := v, log := [] } ts
    p.prog = .skip →
      p.lcre.run = .ticking ∧ p.lcre.ind = true ∧ p.lcre.fie = false ∧
      ∃ pre mid post,
        p.log = pre ++ .xact 0x9001#16 none :: mid ++ .xact 0x9003#16 none :: post ∧
        (∀ h ∈ pre ++ post, h.isXact = false) ∧
        (∀ h ∈ mid, h.isXact = true → ∃ b, h = .xact takeWord (some b)) ∧
        s.params.warmupFrames ≤ mid.countP Happening.isBoundary) ∧
  Config.standard.warmupFrames = 5
end

