-- ==== Sys2Proof/Laws/State.lean ====
section
/-! SUPPORT. Laws/State.lean: what each update of the state does to each field, by rfl. -/

namespace Sys2Proof.Machine

/-! ### respond -/

@[simp] theorem State.respond_buf (s : State) (v : Byte) : (s.respond v).buf = s.buf := rfl
@[simp] theorem State.respond_layer (s : State) (v : Byte) : (s.respond v).layer = s.layer := rfl
@[simp] theorem State.respond_tcnt (s : State) (v : Byte) : (s.respond v).tcnt = s.tcnt := rfl
@[simp] theorem State.respond_frame (s : State) (v : Byte) : (s.respond v).frame = s.frame := rfl
@[simp] theorem State.respond_run (s : State) (v : Byte) : (s.respond v).run = s.run := rfl
@[simp] theorem State.respond_ind (s : State) (v : Byte) : (s.respond v).ind = s.ind := rfl
@[simp] theorem State.respond_fie (s : State) (v : Byte) : (s.respond v).fie = s.fie := rfl
@[simp] theorem State.respond_pins (s : State) (v : Byte) : (s.respond v).pins = s.pins := rfl
@[simp] theorem State.respond_engine (s : State) (v : Byte) : (s.respond v).engine = s.engine := rfl
@[simp] theorem State.respond_tickPending (s : State) (v : Byte) :
    (s.respond v).tickPending =
      s.tickPending := rfl
@[simp] theorem State.respond_trace (s : State) (v : Byte) : (s.respond v).trace = s.trace := rfl
@[simp] theorem State.respond_rdata (s : State) (v : Byte) : (s.respond v).rdata = some v := rfl
@[simp] theorem State.respond_port (s : State) (v : Byte) : (s.respond v).port = s.port := rfl
@[simp] theorem State.respond_inputs (s : State) (v : Byte) : (s.respond v).inputs = s.inputs := rfl
@[simp] theorem State.respond_params (s : State) (v : Byte) :
    (s.respond v).params =
      s.params := rfl

/-! ### acknowledge -/

@[simp] theorem State.acknowledge_buf (s : State) : (s.acknowledge).buf = s.buf := rfl
@[simp] theorem State.acknowledge_layer (s : State) : (s.acknowledge).layer = s.layer := rfl
@[simp] theorem State.acknowledge_tcnt (s : State) : (s.acknowledge).tcnt = s.tcnt := rfl
@[simp] theorem State.acknowledge_frame (s : State) : (s.acknowledge).frame = s.frame := rfl
@[simp] theorem State.acknowledge_run (s : State) : (s.acknowledge).run = s.run := rfl
@[simp] theorem State.acknowledge_ind (s : State) : (s.acknowledge).ind = s.ind := rfl
@[simp] theorem State.acknowledge_fie (s : State) : (s.acknowledge).fie = s.fie := rfl
@[simp] theorem State.acknowledge_pins (s : State) : (s.acknowledge).pins = s.pins := rfl
@[simp] theorem State.acknowledge_engine (s : State) : (s.acknowledge).engine = s.engine := rfl
@[simp] theorem State.acknowledge_tickPending (s : State) :
    (s.acknowledge).tickPending =
      s.tickPending := rfl
@[simp] theorem State.acknowledge_trace (s : State) : (s.acknowledge).trace = s.trace := rfl
@[simp] theorem State.acknowledge_rdata (s : State) : (s.acknowledge).rdata = none := rfl
@[simp] theorem State.acknowledge_port (s : State) : (s.acknowledge).port = s.port := rfl
@[simp] theorem State.acknowledge_inputs (s : State) : (s.acknowledge).inputs = s.inputs := rfl
@[simp] theorem State.acknowledge_params (s : State) : (s.acknowledge).params = s.params := rfl

/-! ### setRow -/

@[simp] theorem State.setRow_layer (s : State) (z y : Coord) (v : Row) :
    (s.setRow z y v).layer =
      s.layer := rfl
@[simp] theorem State.setRow_tcnt (s : State) (z y : Coord) (v : Row) :
    (s.setRow z y v).tcnt =
      s.tcnt := rfl
@[simp] theorem State.setRow_frame (s : State) (z y : Coord) (v : Row) :
    (s.setRow z y v).frame =
      s.frame := rfl
@[simp] theorem State.setRow_run (s : State) (z y : Coord) (v : Row) :
    (s.setRow z y v).run =
      s.run := rfl
@[simp] theorem State.setRow_ind (s : State) (z y : Coord) (v : Row) :
    (s.setRow z y v).ind =
      s.ind := rfl
@[simp] theorem State.setRow_fie (s : State) (z y : Coord) (v : Row) :
    (s.setRow z y v).fie =
      s.fie := rfl
@[simp] theorem State.setRow_pins (s : State) (z y : Coord) (v : Row) :
    (s.setRow z y v).pins =
      s.pins := rfl
@[simp] theorem State.setRow_engine (s : State) (z y : Coord) (v : Row) :
    (s.setRow z y v).engine =
      s.engine := rfl
@[simp] theorem State.setRow_tickPending (s : State) (z y : Coord) (v : Row) :
    (s.setRow z y v).tickPending =
      s.tickPending := rfl
@[simp] theorem State.setRow_trace (s : State) (z y : Coord) (v : Row) :
    (s.setRow z y v).trace =
      s.trace := rfl
@[simp] theorem State.setRow_rdata (s : State) (z y : Coord) (v : Row) :
    (s.setRow z y v).rdata =
      s.rdata := rfl
@[simp] theorem State.setRow_port (s : State) (z y : Coord) (v : Row) :
    (s.setRow z y v).port =
      s.port := rfl
@[simp] theorem State.setRow_inputs (s : State) (z y : Coord) (v : Row) :
    (s.setRow z y v).inputs =
      s.inputs := rfl
@[simp] theorem State.setRow_params (s : State) (z y : Coord) (v : Row) :
    (s.setRow z y v).params =
      s.params := rfl

/-! ### writeCtrl -/

@[simp] theorem State.writeCtrl_buf (s : State) (d : Byte) : (s.writeCtrl d).buf = s.buf := rfl
@[simp] theorem State.writeCtrl_layer (s : State) (d : Byte) :
    (s.writeCtrl d).layer =
      s.layer := rfl
@[simp] theorem State.writeCtrl_tcnt (s : State) (d : Byte) : (s.writeCtrl d).tcnt = s.tcnt := rfl
@[simp] theorem State.writeCtrl_frame (s : State) (d : Byte) :
    (s.writeCtrl d).frame =
      s.frame := rfl
@[simp] theorem State.writeCtrl_run (s : State) (d : Byte) :
    (s.writeCtrl d).run =
      if ctrlArm d then .ticking else s.run := rfl
@[simp] theorem State.writeCtrl_ind (s : State) (d : Byte) : (s.writeCtrl d).ind = ctrlInd d := rfl
@[simp] theorem State.writeCtrl_fie (s : State) (d : Byte) : (s.writeCtrl d).fie = ctrlFie d := rfl
@[simp] theorem State.writeCtrl_pins (s : State) (d : Byte) : (s.writeCtrl d).pins = s.pins := rfl
@[simp] theorem State.writeCtrl_engine (s : State) (d : Byte) :
    (s.writeCtrl d).engine =
      s.engine := rfl
@[simp] theorem State.writeCtrl_tickPending (s : State) (d : Byte) :
    (s.writeCtrl d).tickPending =
      s.tickPending := rfl
@[simp] theorem State.writeCtrl_trace (s : State) (d : Byte) :
    (s.writeCtrl d).trace =
      s.trace := rfl
@[simp] theorem State.writeCtrl_rdata (s : State) (d : Byte) :
    (s.writeCtrl d).rdata =
      s.rdata := rfl
@[simp] theorem State.writeCtrl_port (s : State) (d : Byte) : (s.writeCtrl d).port = s.port := rfl
@[simp] theorem State.writeCtrl_inputs (s : State) (d : Byte) :
    (s.writeCtrl d).inputs =
      s.inputs := rfl
@[simp] theorem State.writeCtrl_params (s : State) (d : Byte) :
    (s.writeCtrl d).params =
      s.params := rfl

/-! ### clearFrame -/

@[simp] theorem State.clearFrame_buf (s : State) : (s.clearFrame).buf = s.buf := rfl
@[simp] theorem State.clearFrame_layer (s : State) : (s.clearFrame).layer = s.layer := rfl
@[simp] theorem State.clearFrame_tcnt (s : State) : (s.clearFrame).tcnt = s.tcnt := rfl
@[simp] theorem State.clearFrame_frame (s : State) : (s.clearFrame).frame = false := rfl
@[simp] theorem State.clearFrame_run (s : State) : (s.clearFrame).run = s.run := rfl
@[simp] theorem State.clearFrame_ind (s : State) : (s.clearFrame).ind = s.ind := rfl
@[simp] theorem State.clearFrame_fie (s : State) : (s.clearFrame).fie = s.fie := rfl
@[simp] theorem State.clearFrame_pins (s : State) : (s.clearFrame).pins = s.pins := rfl
@[simp] theorem State.clearFrame_engine (s : State) : (s.clearFrame).engine = s.engine := rfl
@[simp] theorem State.clearFrame_tickPending (s : State) :
    (s.clearFrame).tickPending =
      s.tickPending := rfl
@[simp] theorem State.clearFrame_trace (s : State) : (s.clearFrame).trace = s.trace := rfl
@[simp] theorem State.clearFrame_rdata (s : State) : (s.clearFrame).rdata = s.rdata := rfl
@[simp] theorem State.clearFrame_port (s : State) : (s.clearFrame).port = s.port := rfl
@[simp] theorem State.clearFrame_inputs (s : State) : (s.clearFrame).inputs = s.inputs := rfl
@[simp] theorem State.clearFrame_params (s : State) : (s.clearFrame).params = s.params := rfl

/-! ### beginTick -/

@[simp] theorem State.beginTick_buf (s : State) : (s.beginTick).buf = s.buf := rfl
@[simp] theorem State.beginTick_layer (s : State) : (s.beginTick).layer = s.layer + 1 := rfl
@[simp] theorem State.beginTick_tcnt (s : State) : (s.beginTick).tcnt = s.tcnt := rfl
@[simp] theorem State.beginTick_frame (s : State) : (s.beginTick).frame = s.frame := rfl
@[simp] theorem State.beginTick_run (s : State) : (s.beginTick).run = s.run := rfl
@[simp] theorem State.beginTick_ind (s : State) : (s.beginTick).ind = s.ind := rfl
@[simp] theorem State.beginTick_fie (s : State) : (s.beginTick).fie = s.fie := rfl
@[simp] theorem State.beginTick_pins (s : State) : (s.beginTick).pins = s.pins := rfl
@[simp] theorem State.beginTick_engine (s : State) :
    (s.beginTick).engine =
      .driving (tickScript (s.layer + 1) (s.row (s.layer + 1))) := rfl
@[simp] theorem State.beginTick_tickPending (s : State) :
    (s.beginTick).tickPending =
      s.tickPending := rfl
@[simp] theorem State.beginTick_trace (s : State) : (s.beginTick).trace = [] := rfl
@[simp] theorem State.beginTick_rdata (s : State) : (s.beginTick).rdata = s.rdata := rfl
@[simp] theorem State.beginTick_port (s : State) : (s.beginTick).port = s.port := rfl
@[simp] theorem State.beginTick_inputs (s : State) : (s.beginTick).inputs = s.inputs := rfl
@[simp] theorem State.beginTick_params (s : State) : (s.beginTick).params = s.params := rfl

/-! ### drivePin -/

@[simp] theorem State.drivePin_buf (s : State) (e : PinEvent) (rest : List PinEvent) :
    (s.drivePin e rest).buf =
      s.buf := rfl
@[simp] theorem State.drivePin_layer (s : State) (e : PinEvent) (rest : List PinEvent) :
    (s.drivePin e rest).layer =
      s.layer := rfl
@[simp] theorem State.drivePin_tcnt (s : State) (e : PinEvent) (rest : List PinEvent) :
    (s.drivePin e rest).tcnt =
      s.tcnt := rfl
@[simp] theorem State.drivePin_frame (s : State) (e : PinEvent) (rest : List PinEvent) :
    (s.drivePin e rest).frame =
      s.frame := rfl
@[simp] theorem State.drivePin_run (s : State) (e : PinEvent) (rest : List PinEvent) :
    (s.drivePin e rest).run =
      s.run := rfl
@[simp] theorem State.drivePin_ind (s : State) (e : PinEvent) (rest : List PinEvent) :
    (s.drivePin e rest).ind =
      s.ind := rfl
@[simp] theorem State.drivePin_fie (s : State) (e : PinEvent) (rest : List PinEvent) :
    (s.drivePin e rest).fie =
      s.fie := rfl
@[simp] theorem State.drivePin_pins (s : State) (e : PinEvent) (rest : List PinEvent) :
    (s.drivePin e rest).pins =
      s.pins.drive e := rfl
@[simp] theorem State.drivePin_engine (s : State) (e : PinEvent) (rest : List PinEvent) :
    (s.drivePin e rest).engine =
      .driving rest := rfl
@[simp] theorem State.drivePin_tickPending (s : State) (e : PinEvent) (rest : List PinEvent) :
    (s.drivePin e rest).tickPending =
      s.tickPending := rfl
@[simp] theorem State.drivePin_trace (s : State) (e : PinEvent) (rest : List PinEvent) :
    (s.drivePin e rest).trace =
      s.trace ++ [e] := rfl
@[simp] theorem State.drivePin_rdata (s : State) (e : PinEvent) (rest : List PinEvent) :
    (s.drivePin e rest).rdata =
      s.rdata := rfl
@[simp] theorem State.drivePin_port (s : State) (e : PinEvent) (rest : List PinEvent) :
    (s.drivePin e rest).port =
      s.port := rfl
@[simp] theorem State.drivePin_inputs (s : State) (e : PinEvent) (rest : List PinEvent) :
    (s.drivePin e rest).inputs =
      s.inputs := rfl
@[simp] theorem State.drivePin_params (s : State) (e : PinEvent) (rest : List PinEvent) :
    (s.drivePin e rest).params =
      s.params := rfl

/-! ### countTick -/

@[simp] theorem State.countTick_buf (s : State) : (s.countTick).buf = s.buf := rfl
@[simp] theorem State.countTick_layer (s : State) : (s.countTick).layer = s.layer := rfl
@[simp] theorem State.countTick_tcnt (s : State) :
    (s.countTick).tcnt =
      nextTcnt s.params.frameDiv s.tcnt := rfl
@[simp] theorem State.countTick_frame (s : State) :
    (s.countTick).frame =
      (s.frame || isBoundary s.params.frameDiv s.tcnt) := rfl
@[simp] theorem State.countTick_run (s : State) : (s.countTick).run = s.run := rfl
@[simp] theorem State.countTick_ind (s : State) : (s.countTick).ind = s.ind := rfl
@[simp] theorem State.countTick_fie (s : State) : (s.countTick).fie = s.fie := rfl
@[simp] theorem State.countTick_pins (s : State) : (s.countTick).pins = s.pins := rfl
@[simp] theorem State.countTick_engine (s : State) :
    (s.countTick).engine =
      s.engine := rfl
@[simp] theorem State.countTick_tickPending (s : State) :
    (s.countTick).tickPending =
      s.tickPending := rfl
@[simp] theorem State.countTick_trace (s : State) : (s.countTick).trace = s.trace := rfl
@[simp] theorem State.countTick_rdata (s : State) : (s.countTick).rdata = s.rdata := rfl
@[simp] theorem State.countTick_port (s : State) : (s.countTick).port = s.port := rfl
@[simp] theorem State.countTick_inputs (s : State) :
    (s.countTick).inputs =
      s.inputs := rfl
@[simp] theorem State.countTick_params (s : State) : (s.countTick).params = s.params := rfl

/-! ### endTick -/

@[simp] theorem State.endTick_buf (s : State) : (s.endTick).buf = s.buf := rfl
@[simp] theorem State.endTick_layer (s : State) : (s.endTick).layer = s.layer := rfl
@[simp] theorem State.endTick_tcnt (s : State) :
    (s.endTick).tcnt =
      nextTcnt s.params.frameDiv s.tcnt := rfl
@[simp] theorem State.endTick_frame (s : State) :
    (s.endTick).frame =
      (s.frame || isBoundary s.params.frameDiv s.tcnt) := rfl
@[simp] theorem State.endTick_run (s : State) : (s.endTick).run = s.run := rfl
@[simp] theorem State.endTick_ind (s : State) : (s.endTick).ind = s.ind := rfl
@[simp] theorem State.endTick_fie (s : State) : (s.endTick).fie = s.fie := rfl
@[simp] theorem State.endTick_pins (s : State) : (s.endTick).pins = s.pins := rfl
@[simp] theorem State.endTick_engine (s : State) : (s.endTick).engine = .quiet := rfl
@[simp] theorem State.endTick_tickPending (s : State) :
    (s.endTick).tickPending =
      s.tickPending := rfl
@[simp] theorem State.endTick_trace (s : State) : (s.endTick).trace = s.trace := rfl
@[simp] theorem State.endTick_rdata (s : State) : (s.endTick).rdata = s.rdata := rfl
@[simp] theorem State.endTick_port (s : State) : (s.endTick).port = s.port := rfl
@[simp] theorem State.endTick_inputs (s : State) : (s.endTick).inputs = s.inputs := rfl
@[simp] theorem State.endTick_params (s : State) : (s.endTick).params = s.params := rfl

/-! ### muxStep -/

@[simp] theorem State.muxStep_buf (s : State) : (s.muxStep).buf = s.buf := rfl
@[simp] theorem State.muxStep_layer (s : State) : (s.muxStep).layer = s.layer + 1 := rfl
@[simp] theorem State.muxStep_tcnt (s : State) : (s.muxStep).tcnt = s.tcnt := rfl
@[simp] theorem State.muxStep_frame (s : State) : (s.muxStep).frame = s.frame := rfl
@[simp] theorem State.muxStep_run (s : State) : (s.muxStep).run = s.run := rfl
@[simp] theorem State.muxStep_ind (s : State) : (s.muxStep).ind = s.ind := rfl
@[simp] theorem State.muxStep_fie (s : State) : (s.muxStep).fie = s.fie := rfl
@[simp] theorem State.muxStep_pins (s : State) :
    (s.muxStep).pins =
      s.pins.driveAll (tickScript (s.layer + 1) (s.row (s.layer + 1))) := rfl
@[simp] theorem State.muxStep_engine (s : State) : (s.muxStep).engine = s.engine := rfl
@[simp] theorem State.muxStep_tickPending (s : State) :
    (s.muxStep).tickPending =
      s.tickPending := rfl
@[simp] theorem State.muxStep_trace (s : State) :
    (s.muxStep).trace =
      tickScript (s.layer + 1) (s.row (s.layer + 1)) := rfl
@[simp] theorem State.muxStep_rdata (s : State) : (s.muxStep).rdata = s.rdata := rfl
@[simp] theorem State.muxStep_port (s : State) : (s.muxStep).port = s.port := rfl
@[simp] theorem State.muxStep_inputs (s : State) : (s.muxStep).inputs = s.inputs := rfl
@[simp] theorem State.muxStep_params (s : State) : (s.muxStep).params = s.params := rfl

/-! ### latchStrobe -/

@[simp] theorem State.latchStrobe_buf (s : State) (b : Bool) : (s.latchStrobe b).buf = s.buf := rfl
@[simp] theorem State.latchStrobe_layer (s : State) (b : Bool) :
    (s.latchStrobe b).layer =
      s.layer := rfl
@[simp] theorem State.latchStrobe_tcnt (s : State) (b : Bool) :
    (s.latchStrobe b).tcnt =
      s.tcnt := rfl
@[simp] theorem State.latchStrobe_frame (s : State) (b : Bool) :
    (s.latchStrobe b).frame =
      s.frame := rfl
@[simp] theorem State.latchStrobe_run (s : State) (b : Bool) : (s.latchStrobe b).run = s.run := rfl
@[simp] theorem State.latchStrobe_ind (s : State) (b : Bool) : (s.latchStrobe b).ind = s.ind := rfl
@[simp] theorem State.latchStrobe_fie (s : State) (b : Bool) : (s.latchStrobe b).fie = s.fie := rfl
@[simp] theorem State.latchStrobe_pins (s : State) (b : Bool) :
    (s.latchStrobe b).pins =
      s.pins := rfl
@[simp] theorem State.latchStrobe_engine (s : State) (b : Bool) :
    (s.latchStrobe b).engine =
      s.engine := rfl
@[simp] theorem State.latchStrobe_tickPending (s : State) (b : Bool) :
    (s.latchStrobe b).tickPending =
      (s.tickPending || b) := rfl
@[simp] theorem State.latchStrobe_trace (s : State) (b : Bool) :
    (s.latchStrobe b).trace =
      s.trace := rfl
@[simp] theorem State.latchStrobe_rdata (s : State) (b : Bool) :
    (s.latchStrobe b).rdata =
      s.rdata := rfl
@[simp] theorem State.latchStrobe_port (s : State) (b : Bool) :
    (s.latchStrobe b).port =
      s.port := rfl
@[simp] theorem State.latchStrobe_inputs (s : State) (b : Bool) :
    (s.latchStrobe b).inputs =
      s.inputs := rfl
@[simp] theorem State.latchStrobe_params (s : State) (b : Bool) :
    (s.latchStrobe b).params =
      s.params := rfl

/-! ### arrive -/

@[simp] theorem State.arrive_buf (s : State) : (s.arrive).buf = s.buf := rfl
@[simp] theorem State.arrive_layer (s : State) : (s.arrive).layer = s.layer := rfl
@[simp] theorem State.arrive_tcnt (s : State) : (s.arrive).tcnt = s.tcnt := rfl
@[simp] theorem State.arrive_frame (s : State) : (s.arrive).frame = s.frame := rfl
@[simp] theorem State.arrive_run (s : State) : (s.arrive).run = s.run := rfl
@[simp] theorem State.arrive_ind (s : State) : (s.arrive).ind = s.ind := rfl
@[simp] theorem State.arrive_fie (s : State) : (s.arrive).fie = s.fie := rfl
@[simp] theorem State.arrive_pins (s : State) : (s.arrive).pins = s.pins := rfl
@[simp] theorem State.arrive_engine (s : State) : (s.arrive).engine = s.engine := rfl
@[simp] theorem State.arrive_tickPending (s : State) : (s.arrive).tickPending = s.tickPending := rfl
@[simp] theorem State.arrive_trace (s : State) : (s.arrive).trace = s.trace := rfl
@[simp] theorem State.arrive_rdata (s : State) : (s.arrive).rdata = s.rdata := rfl
@[simp] theorem State.arrive_port (s : State) :
    (s.arrive).port =
      s.port ++ s.slot.host.toList := rfl
@[simp] theorem State.arrive_inputs (s : State) : (s.arrive).inputs = s.inputs.tail := rfl
@[simp] theorem State.arrive_params (s : State) : (s.arrive).params = s.params := rfl

/-! ### doReset -/

@[simp] theorem State.doReset_buf (s : State) : (s.doReset).buf = s.params.initPattern := rfl
@[simp] theorem State.doReset_layer (s : State) : (s.doReset).layer = s.params.resetLayer := rfl
@[simp] theorem State.doReset_tcnt (s : State) : (s.doReset).tcnt = 0#8 := rfl
@[simp] theorem State.doReset_frame (s : State) : (s.doReset).frame = false := rfl
@[simp] theorem State.doReset_run (s : State) : (s.doReset).run = .idle := rfl
@[simp] theorem State.doReset_ind (s : State) : (s.doReset).ind = false := rfl
@[simp] theorem State.doReset_fie (s : State) : (s.doReset).fie = false := rfl
@[simp] theorem State.doReset_pins (s : State) : (s.doReset).pins = Pins.reset := rfl
@[simp] theorem State.doReset_engine (s : State) : (s.doReset).engine = .quiet := rfl
@[simp] theorem State.doReset_tickPending (s : State) : (s.doReset).tickPending = false := rfl
@[simp] theorem State.doReset_trace (s : State) : (s.doReset).trace = [] := rfl
@[simp] theorem State.doReset_rdata (s : State) : (s.doReset).rdata = none := rfl
@[simp] theorem State.doReset_port (s : State) : (s.doReset).port = [] := rfl
@[simp] theorem State.doReset_inputs (s : State) : (s.doReset).inputs = s.inputs := rfl
@[simp] theorem State.doReset_params (s : State) : (s.doReset).params = s.params := rfl

end Sys2Proof.Machine
end

