-- ==== Sys2Proof/Laws/Ops.lean ====
section
/-! SUPPORT. Laws/Ops.lean: for each shared operation, once, what it can do. -/

namespace Sys2Proof.Machine

/-! ### Rows -/

/-- A row depends on the buffer alone. -/
theorem State.row_congr {s t : State} (h : s.buf = t.buf) (z y : Coord) :
    s.row z y = t.row z y := by simp [State.row, h]

@[simp] theorem State.row_setRow (s : State) (z y z' y' : Coord) (v : Row) :
    (s.setRow z y v).row z' y' = if z = z' ∧ y = y' then v else s.row z' y' := by
  unfold State.row State.setRow
  simp only [Vector.getElem_set, ← BitVec.toNat_inj]
  by_cases hz : z.toNat = z'.toNat
  · by_cases hy : y.toNat = y'.toNat <;> simp [hz, hy]
  · simp [hz]

@[simp] theorem State.row_respond (s : State) (v : Byte) (z y : Coord) :
    (s.respond v).row z y = s.row z y := rfl
@[simp] theorem State.row_acknowledge (s : State) (z y : Coord) :
    s.acknowledge.row z y = s.row z y := rfl
@[simp] theorem State.row_writeCtrl (s : State) (d : Byte) (z y : Coord) :
    (s.writeCtrl d).row z y = s.row z y := rfl
@[simp] theorem State.row_clearFrame (s : State) (z y : Coord) :
    s.clearFrame.row z y = s.row z y := rfl
@[simp] theorem State.row_beginTick (s : State) (z y : Coord) :
    s.beginTick.row z y = s.row z y := rfl
@[simp] theorem State.row_drivePin (s : State) (e : PinEvent) (rest : List PinEvent)
    (z y : Coord) : (s.drivePin e rest).row z y = s.row z y := rfl
@[simp] theorem State.row_endTick (s : State) (z y : Coord) :
    (s.endTick).row z y = s.row z y := rfl
@[simp] theorem State.row_muxStep (s : State) (z y : Coord) :
    s.muxStep.row z y = s.row z y := rfl
@[simp] theorem State.row_latchStrobe (s : State) (b : Bool) (z y : Coord) :
    (s.latchStrobe b).row z y = s.row z y := rfl
@[simp] theorem State.row_arrive (s : State) (z y : Coord) :
    s.arrive.row z y = s.row z y := rfl

/-- The rows determine the buffer. -/
theorem State.buf_ext {s t : State} (h : ∀ z y, s.row z y = t.row z y) : s.buf = t.buf := by
  apply Vector.ext
  intro i hi
  apply Vector.ext
  intro j hj
  have := h (BitVec.ofNat 2 i) (BitVec.ofNat 2 j)
  have hi' : i % 4 = i := by omega
  have hj' : j % 4 = j := by omega
  simpa [State.row, hi', hj'] using this

/-- Setting bit x of a row changes that bit alone. -/
theorem setBit_getLsbD (r : Row) (x x' : Coord) (b : Bool) :
    (setBit r x b).getLsbD x'.toNat = if x = x' then b else r.getLsbD x'.toNat := by
  revert r x x' b
  decide

/-! ### One-hot masks -/

theorem onehot_injective {l m : Coord} (h : onehot l = onehot m) : l = m := by
  revert l m
  decide

theorem onehot_ne_zero (l : Coord) : onehot l ≠ 0#4 := by
  revert l
  decide

/-- Bit z of a one-hot mask. -/
theorem onehot_getLsbD (l z : Coord) : (onehot l).getLsbD z.toNat = decide (l = z) := by
  revert l z
  decide

/-! ### Pin events -/

@[simp] theorem Pins.driveAll_nil (p : Pins) : p.driveAll [] = p := rfl
@[simp] theorem Pins.driveAll_cons (p : Pins) (e : PinEvent) (es : List PinEvent) :
    p.driveAll (e :: es) = (p.drive e).driveAll es := rfl
@[simp] theorem Pins.driveAll_append (p : Pins) (es fs : List PinEvent) :
    p.driveAll (es ++ fs) = (p.driveAll es).driveAll fs := by
  simp [Pins.driveAll]

/-- The events of a tick, one by one. -/
theorem tickScript_eq (l : Coord) (r : Coord → Row) :
    tickScript l r =
      .le 0b0000#4 ::
        (pulse ((r 2).getLsbD 0) ((r 0).getLsbD 0) ++ pulse ((r 2).getLsbD 1) ((r 0).getLsbD 1) ++
          pulse ((r 2).getLsbD 2) ((r 0).getLsbD 2) ++ pulse ((r 2).getLsbD 3) ((r 0).getLsbD 3) ++
          pulse ((r 3).getLsbD 0) ((r 1).getLsbD 0) ++ pulse ((r 3).getLsbD 1) ((r 1).getLsbD 1) ++
          pulse ((r 3).getLsbD 2) ((r 1).getLsbD 2) ++ pulse ((r 3).getLsbD 3) ((r 1).getLsbD 3) ++
          [.le (onehot l)]) := rfl

theorem tickScript_length (l : Coord) (r : Coord → Row) : (tickScript l r).length = 26 := rfl

/-- The levels a whole tick leaves, whatever they were before (R38, R155, R174). -/
theorem driveAll_tickScript (p : Pins) (l : Coord) (r : Coord → Row) :
    p.driveAll (tickScript l r) =
      { dataA := (r 3).getLsbD 3, dataB := (r 1).getLsbD 3, sclk := false, le := onehot l } := rfl

/-! ### The counter -/

theorem nextTcnt_toNat {n c : Byte} (hc : c.toNat < n.toNat) :
    (nextTcnt n c).toNat = (c.toNat + 1) % n.toNat := by
  unfold nextTcnt isBoundary
  by_cases h : c.toNat + 1 = n.toNat
  · simp [h]
  · have : c.toNat + 1 < n.toNat := by omega
    simp [h, Nat.mod_eq_of_lt this]
    omega

/-! ### Ticks -/

theorem State.startTick_idle {s : State} (h : s.run = .idle) : s.startTick = s := by
  simp [State.startTick, h]

theorem State.startTick_ticking {s : State} (h : s.run = .ticking) :
    s.startTick = s.beginTick := by simp [State.startTick, h]

theorem State.tick_idle {s : State} (h : s.run = .idle) : s.tick = s := by
  simp [State.tick, h]

theorem State.tick_ticking {s : State} (h : s.run = .ticking) :
    s.tick = s.muxStep.countTick := by simp [State.tick, h]

/-- A tick before a reset leaves nothing behind: listed before the reset or replaced by it (R292),
the state is the same. -/
theorem State.doReset_tick (s : State) : s.tick.doReset = s.doReset := by
  cases h : s.run
  · rw [State.tick_idle h]
  · rw [State.tick_ticking h]; rfl

/-- A tick returns with no tick pending to start. -/
theorem State.finishTick_none {s : State} (h : s.tickPending = false) :
    s.finishTick = s.endTick := by simp [State.finishTick, h]

/-- A tick returns and the pending one starts at once. -/
theorem State.finishTick_pending {s : State} (h : s.tickPending = true)
    (hr : s.run = .ticking) :
    s.finishTick = State.beginTick { s.endTick with tickPending := false } := by
  rw [State.finishTick, if_pos h]
  exact State.startTick_ticking hr

/-! ### Words -/

/-- The bits of a word, group by group (R90). -/
theorem mkWord_getLsbD (b : Bool) (a : Addr) (d : Byte) (i : Nat) :
    (mkWord b a d).getLsbD i =
      if i < 8 then d.getLsbD i else if i < 15 then a.getLsbD (i - 8) else decide (i = 15) && b := by
  refine (BitVec.getLsbD_append (x := BitVec.ofBool b ++ a) (y := d) (i := i)).trans ?_
  rw [BitVec.getLsbD_append, BitVec.getLsbD_ofBool]
  by_cases h8 : i < 8
  · simp [h8]
  · by_cases h15 : i < 15
    · have : i - 8 < 7 := by omega
      simp [h8, h15, this]
    · have : ¬ i - 8 < 7 := by omega
      have e : (i - 8 - 7 = 0) ↔ i = 15 := by omega
      simp [h8, h15, this, e]

@[simp] theorem wordWrite_mkWord (b : Bool) (a : Addr) (d : Byte) :
    wordWrite (mkWord b a d) = b := by
  rw [wordWrite, mkWord_getLsbD]
  simp

@[simp] theorem wordAddr_mkWord (b : Bool) (a : Addr) (d : Byte) :
    wordAddr (mkWord b a d) = a := by
  apply BitVec.eq_of_getLsbD_eq
  intro i hi
  have : 8 + i < 15 := by omega
  rw [wordAddr, BitVec.getLsbD_extractLsb', mkWord_getLsbD]
  simp [hi, this]

@[simp] theorem wordData_mkWord (b : Bool) (a : Addr) (d : Byte) :
    wordData (mkWord b a d) = d := by
  apply BitVec.eq_of_getLsbD_eq
  intro i hi
  rw [wordData, BitVec.getLsbD_extractLsb', mkWord_getLsbD]
  simp [hi]

/-- A word is made of its three groups. -/
theorem mkWord_groups (w : Word16) : mkWord (wordWrite w) (wordAddr w) (wordData w) = w := by
  apply BitVec.eq_of_getLsbD_eq
  intro i hi
  rw [mkWord_getLsbD, wordWrite, wordAddr, wordData]
  simp only [BitVec.getLsbD_extractLsb']
  by_cases h8 : i < 8
  · simp [h8]
  · by_cases h15 : i < 15
    · have h7 : i - 8 < 7 := by omega
      have e : 8 + (i - 8) = i := by omega
      simp [h8, h15, h7, e]
    · have e : i = 15 := by omega
      simp [e]

/-- A word is decoded from its groups. -/
theorem decode_mkWord (b : Bool) (a : Addr) (d : Byte) :
    decode (mkWord b a d) =
      if b then writeInstr d (decodeAddr a) else readInstr d (decodeAddr a) := by
  simp [decode]

@[simp] theorem decodeAddr_rowAddr (z y : Coord) : decodeAddr (rowAddr z y) = .row z y := by
  revert z y
  decide

@[simp] theorem decodeAddr_voxAddr (z y x : Coord) :
    decodeAddr (voxAddr z y x) = .vox z y x := by
  revert z y x
  decide

end Sys2Proof.Machine
end

