-- ==== Sys2Proof/Laws/PerInstr.lean ====
section
/-! SUPPORT. Laws/PerInstr.lean: what holds of every instruction as syntax, one lemma a constructor. -/

namespace Sys2Proof.Laws

open Sys2Proof.Machine

/-- The word of a well-formed instruction is selected by the instruction's row of R98's table. -/
def EncodeInRow.Statement (i : Instr) : Prop := i.wf = true → i.opcodeRow.selects (encode i) = true

/-- A row is selected by the high bits alone: its mask has no bit in DATA. -/
theorem selects_of_addr {r : OpcodeRow} {b : Bool} {a : Addr}
    (hm : r.mask &&& 0x00FF#16 = 0#16) (h : r.selects (mkWord b a 0x00#8) = true) (d : Byte) :
    r.selects (mkWord b a d) = true := by
  have key : mkWord b a d &&& r.mask = mkWord b a 0x00#8 &&& r.mask := by
    apply BitVec.eq_of_getLsbD_eq
    intro i hi
    simp only [BitVec.getLsbD_and, mkWord_getLsbD]
    by_cases h8 : i < 8
    · have hF : (0x00FF#16).getLsbD i = true := by interval_cases i <;> rfl
      have h0 := congrArg (fun m : Word16 => m.getLsbD i) hm
      simp only [BitVec.getLsbD_and, hF, Bool.and_true, BitVec.getLsbD_zero] at h0
      simp [h0]
    · simp [h8]
  simpa [OpcodeRow.selects, key] using h

namespace EncodeInRow

theorem rowRd (z y : Coord) (data : Byte) : Statement (.rowRd z y data) := fun h =>
  selects_of_addr (r := (Instr.rowRd 0 0 0).opcodeRow) (by decide)
    (by clear h; revert z y; decide) data

theorem rowWr (z y : Coord) (data : Byte) : Statement (.rowWr z y data) := fun h =>
  selects_of_addr (r := (Instr.rowWr 0 0 0).opcodeRow) (by decide)
    (by clear h; revert z y; decide) data

theorem voxRd (z y x : Coord) (data : Byte) : Statement (.voxRd z y x data) := fun h =>
  selects_of_addr (r := (Instr.voxRd 0 0 0 0).opcodeRow) (by decide)
    (by clear h; revert z y x; decide) data

theorem voxWr (z y x : Coord) (data : Byte) : Statement (.voxWr z y x data) := fun h =>
  selects_of_addr (r := (Instr.voxWr 0 0 0 0).opcodeRow) (by decide)
    (by clear h; revert z y x; decide) data

theorem ctrlRd (data : Byte) : Statement (.ctrlRd data) := fun _ =>
  selects_of_addr (r := (Instr.ctrlRd 0).opcodeRow) (by decide) (by decide) data

theorem ctrlWr (data : Byte) : Statement (.ctrlWr data) := fun _ =>
  selects_of_addr (r := (Instr.ctrlWr 0).opcodeRow) (by decide) (by decide) data

theorem statusRd (data : Byte) : Statement (.statusRd data) := fun _ =>
  selects_of_addr (r := (Instr.statusRd 0).opcodeRow) (by decide) (by decide) data

theorem statusWr (data : Byte) : Statement (.statusWr data) := fun _ =>
  selects_of_addr (r := (Instr.statusWr 0).opcodeRow) (by decide) (by decide) data

theorem layerRd (data : Byte) : Statement (.layerRd data) := fun _ =>
  selects_of_addr (r := (Instr.layerRd 0).opcodeRow) (by decide) (by decide) data

theorem layerWr (data : Byte) : Statement (.layerWr data) := fun _ =>
  selects_of_addr (r := (Instr.layerWr 0).opcodeRow) (by decide) (by decide) data

theorem tickcntRd (data : Byte) : Statement (.tickcntRd data) := fun _ =>
  selects_of_addr (r := (Instr.tickcntRd 0).opcodeRow) (by decide) (by decide) data

theorem tickcntWr (data : Byte) : Statement (.tickcntWr data) := fun _ =>
  selects_of_addr (r := (Instr.tickcntWr 0).opcodeRow) (by decide) (by decide) data

theorem frametakeRd (data : Byte) : Statement (.frametakeRd data) := fun _ =>
  selects_of_addr (r := (Instr.frametakeRd 0).opcodeRow) (by decide) (by decide) data

theorem frametakeWr (data : Byte) : Statement (.frametakeWr data) := fun _ =>
  selects_of_addr (r := (Instr.frametakeWr 0).opcodeRow) (by decide) (by decide) data

theorem framedivRd (data : Byte) : Statement (.framedivRd data) := fun _ =>
  selects_of_addr (r := (Instr.framedivRd 0).opcodeRow) (by decide) (by decide) data

theorem framedivWr (data : Byte) : Statement (.framedivWr data) := fun _ =>
  selects_of_addr (r := (Instr.framedivWr 0).opcodeRow) (by decide) (by decide) data

theorem rsvdRd16 (addr : Addr) (data : Byte) : Statement (.rsvdRd16 addr data) := fun h =>
  selects_of_addr (r := (Instr.rsvdRd16 0 0).opcodeRow) (by decide)
    ((by decide : ∀ a : Addr, inRsvd16 a = true →
      (Instr.rsvdRd16 0 0).opcodeRow.selects (mkWord false a 0x00#8) = true) addr h) data

theorem rsvdRd18 (addr : Addr) (data : Byte) : Statement (.rsvdRd18 addr data) := fun h =>
  selects_of_addr (r := (Instr.rsvdRd18 0 0).opcodeRow) (by decide)
    ((by decide : ∀ a : Addr, inRsvd18 a = true →
      (Instr.rsvdRd18 0 0).opcodeRow.selects (mkWord false a 0x00#8) = true) addr h) data

theorem rsvdRd20 (addr : Addr) (data : Byte) : Statement (.rsvdRd20 addr data) := fun h =>
  selects_of_addr (r := (Instr.rsvdRd20 0 0).opcodeRow) (by decide)
    ((by decide : ∀ a : Addr, inRsvd20 a = true →
      (Instr.rsvdRd20 0 0).opcodeRow.selects (mkWord false a 0x00#8) = true) addr h) data

theorem rsvdWr16 (addr : Addr) (data : Byte) : Statement (.rsvdWr16 addr data) := fun h =>
  selects_of_addr (r := (Instr.rsvdWr16 0 0).opcodeRow) (by decide)
    ((by decide : ∀ a : Addr, inRsvd16 a = true →
      (Instr.rsvdWr16 0 0).opcodeRow.selects (mkWord true a 0x00#8) = true) addr h) data

theorem rsvdWr18 (addr : Addr) (data : Byte) : Statement (.rsvdWr18 addr data) := fun h =>
  selects_of_addr (r := (Instr.rsvdWr18 0 0).opcodeRow) (by decide)
    ((by decide : ∀ a : Addr, inRsvd18 a = true →
      (Instr.rsvdWr18 0 0).opcodeRow.selects (mkWord true a 0x00#8) = true) addr h) data

theorem rsvdWr20 (addr : Addr) (data : Byte) : Statement (.rsvdWr20 addr data) := fun h =>
  selects_of_addr (r := (Instr.rsvdWr20 0 0).opcodeRow) (by decide)
    ((by decide : ∀ a : Addr, inRsvd20 a = true →
      (Instr.rsvdWr20 0 0).opcodeRow.selects (mkWord true a 0x00#8) = true) addr h) data

end EncodeInRow

end Sys2Proof.Laws
end

