-- ==== Sys2Proof/Laws/Step.lean ====
section
/-! SUPPORT. Laws/Step.lean: what a transaction and a step can do, said once. -/

namespace Sys2Proof.Machine

/-- What `exec` may write: the buffer, the CTRL bits, `frame` and the response; the rest of its next
state is the state it began in. -/
theorem exec_cases {i : Instr} {s t : State} (h : exec i s = .next t) :
    ∃ buf run ind fie frame rdata,
      t = { s with buf := buf, run := run, ind := ind, fie := fie, frame := frame,
                   rdata := rdata } := by
  cases i <;> cases h <;> exact ⟨_, _, _, _, _, _, rfl⟩

/-- A step that serves the host port, and the state in which it does: between ticks the state it
began in, as `busy` falls the one the tick in progress leaves (R258). -/
inductive Serves (s u : State) : Prop where
  | between (he : s.engine = .quiet) (hs : (s.slot.tick && s.ticking) = false) (hu : u = s.arrive)
  | ended (he : s.engine = .driving []) (hs : (s.tickPending || s.slot.tick) = false)
      (hu : u = s.arrive.endTick)

/-- What every such state has in common with the one the step began in. -/
theorem Serves.frame {s u : State} (h : Serves s u) :
    u = { s.arrive with engine := .quiet, tcnt := u.tcnt, frame := u.frame } ∧
      (s.frame = true → u.frame = true) := by
  cases h with
  | between he _ hu => subst hu; simp [State.arrive, ← he]
  | ended _ _ hu => subst hu; simp +contextual [State.endTick, State.countTick]

/-- The cases of a step that answers a next state. -/
inductive StepCase (s t : State) : Prop where
  | reset (h : s.slot.reset = true) (ht : t = s.arrive.doReset)
  | drive (hr : s.slot.reset = false) (e : PinEvent) (rest : List PinEvent)
      (he : s.engine = .driving (e :: rest))
      (ht : t = (s.arrive.latchStrobe s.slot.tick).drivePin e rest)
  | again (hr : s.slot.reset = false) (he : s.engine = .driving [])
      (hs : (s.tickPending || s.slot.tick) = true)
      (ht : t = (s.arrive.latchStrobe s.slot.tick).finishTick)
  | start (hr : s.slot.reset = false) (he : s.engine = .quiet) (hs : s.slot.tick = true)
      (ht' : s.run = .ticking) (ht : t = s.arrive.beginTick)
  | wait (hr : s.slot.reset = false) (hu : Serves s t) (hp : s.arrive.port = [])
  | serve (hr : s.slot.reset = false) (u : State) (hu : Serves s u) (w : Word16)
      (ws : List Word16) (hp : s.arrive.port = w :: ws)
      (ht : exec (decode w) { u with port := ws } = .next t)

theorem ticking_iff {s : State} : s.ticking = true ↔ s.run = .ticking := by
  cases h : s.run <;> simp [State.ticking, h]

/-- The port is served in a state that is to be served, taken apart. -/
theorem StepCase.of_serve {s t u : State} (hr : s.slot.reset = false) (hu : Serves s u)
    (h : u.serve = .next t) : StepCase s t := by
  have hp : u.port = s.arrive.port := by rw [hu.frame.1]
  unfold State.serve at h
  split at h
  · next hnil =>
    cases h
    exact .wait hr hu (hp ▸ hnil)
  · next w ws hcons => exact .serve hr u hu w ws (hp ▸ hcons) h

/-- A tick that returns with none pending is over. -/
theorem State.finishTick_ended {s : State} {b : Bool} (h : (s.tickPending || b) = false) :
    (s.latchStrobe b).finishTick = s.endTick := by
  rw [State.finishTick_none (s := s.latchStrobe b) h]
  obtain ⟨hp, hb⟩ := Bool.or_eq_false_iff.1 h
  simp [State.latchStrobe, State.endTick, State.countTick, hp, hb]

/-- One step, taken apart. -/
theorem step_cases {s t : State} (h : step s = .next t) : StepCase s t := by
  unfold step State.cycle at h
  by_cases hr : s.slot.reset = true
  · rw [if_pos hr] at h
    cases h
    exact .reset hr rfl
  · rw [if_neg hr] at h
    simp only [Bool.not_eq_true] at hr
    unfold State.engineMove at h
    split at h
    · next e rest he =>
      cases h
      exact .drive hr e rest he rfl
    · next he =>
      unfold State.closeTick at h
      split at h
      · next hs =>
        cases h
        exact .again hr he hs rfl
      · next hs =>
        have hs' : (s.tickPending || s.slot.tick) = false := by simpa using hs
        rw [State.finishTick_ended (s := s.arrive) hs'] at h
        exact .of_serve hr (.ended he hs' rfl) h
    · next he =>
      split at h
      · next hs =>
        cases h
        simp only [Bool.and_eq_true] at hs
        exact .start hr he hs.1 (ticking_iff.1 hs.2) rfl
      · next hs =>
        have hs' : (s.slot.tick && s.ticking) = false := by simpa [State.ticking] using hs
        exact .of_serve hr (.between he hs' rfl) h

/-- The event a step commits, case by case. -/
theorem commits_reset {s : State} (h : s.slot.reset = true) : s.commits = some .reset := by
  simp [State.commits, h]

theorem commits_drive {s : State} {e : PinEvent} {rest : List PinEvent}
    (hr : s.slot.reset = false) (he : s.engine = .driving (e :: rest)) : s.commits = none := by
  simp [State.commits, hr, he]

theorem commits_again {s : State} (hr : s.slot.reset = false) (he : s.engine = .driving [])
    (hs : (s.tickPending || s.slot.tick) = true) : s.commits = some .tick := by
  simp only [State.commits, hr, he, hs]
  rfl

theorem commits_start {s : State} (hr : s.slot.reset = false) (he : s.engine = .quiet)
    (hs : s.slot.tick = true) (ht : s.run = .ticking) : s.commits = some .tick := by
  simp [State.commits, hr, he, hs, ticking_iff.2 ht]

theorem Serves.commits {s u : State} (hr : s.slot.reset = false) (hu : Serves s u) :
    s.commits = s.nextTransaction := by
  cases hu with
  | between he hs _ =>
    simp only [State.commits, hr, he, hs]
    rfl
  | ended he hs _ =>
    simp only [State.commits, hr, he, hs]
    rfl

theorem commits_wait {s u : State} (hr : s.slot.reset = false) (hu : Serves s u)
    (hp : s.arrive.port = []) : s.commits = none := by
  rw [hu.commits hr, State.nextTransaction, hp]
  rfl

theorem commits_serve {s u : State} {w : Word16} {ws : List Word16} (hr : s.slot.reset = false)
    (hu : Serves s u) (hp : s.arrive.port = w :: ws) : s.commits = some (.host w) := by
  rw [hu.commits hr, State.nextTransaction, hp]
  rfl

end Sys2Proof.Machine
end

