-- ==== Sys2Proof/Tests/Slice0.lean ====
section
/-! SUPPORT. Tests/Slice0.lean: the model's own tests. Expected values are those of the spec's
encodings (30_encoding.md R98) and of its worked vectors (95_test_vectors.md, named at each test);
and, for every obligation with hypotheses, a witness that meets them. -/

namespace Sys2Proof.Tests

open Sys2Proof.Machine

/-! ### Helpers -/

/-- The buffer whose row `[z][y]` is `p z y`. -/
def bufOf (p : Coord → Coord → Row) : Vector (Vector Row 4) 4 :=
  #v[#v[p 0 0, p 0 1, p 0 2, p 0 3], #v[p 1 0, p 1 1, p 1 2, p 1 3],
     #v[p 2 0, p 2 1, p 2 2, p 2 3], #v[p 3 0, p 3 1, p 3 2, p 3 3]]

/-- The standard build with an INIT_PATTERN of zeros and a given FRAME_DIV. -/
def build (frameDiv : Byte) : Params :=
  { Config.standard with frameDiv := frameDiv, initPattern := bufOf fun _ _ => 0#4 }

/-- The state after reset of the standard build with an INIT_PATTERN of zeros. -/
def blank : State := State.resetWith (build 24)

/-- `blank`, armed, with a given layer and counter. -/
def armed (layer : Coord) (tcnt : Byte) : State :=
  { blank with run := .ticking, layer := layer, tcnt := tcnt }

/-- What a result's next state holds. -/
def after {α : Type} (r : Result) (f : State → α) : Option α :=
  match r with
  | .next t => some (f t)
  | .fault _ => none
  | .refused _ => none

/-- One step that performs the word `w`. -/
def perform (w : Word16) (s : State) : Result := step { s with port := [w] }

/-- A slot with nothing but a strobe. -/
def strobe : Slot := { reset := false, tick := true, host := none }

/-- A slot with nothing but a transaction. -/
def issue (w : Word16) : Slot := { reset := false, tick := false, host := some w }

/-- A slot with a reset, a strobe and a transaction. -/
def resetSlot : Slot := { reset := true, tick := true, host := some 0x9001#16 }

/-! ### Well-formedness: what each check refuses -/

theorem test_wf_refuses_rsvdRd16 : (Instr.rsvdRd16 0x18#7 0#8).wf = false := by decide
theorem test_wf_refuses_rsvdRd18 : (Instr.rsvdRd18 0x17#7 0#8).wf = false := by decide
theorem test_wf_refuses_rsvdRd20 : (Instr.rsvdRd20 0x40#7 0#8).wf = false := by decide
theorem test_wf_refuses_rsvdWr16 : (Instr.rsvdWr16 0x15#7 0#8).wf = false := by decide
theorem test_wf_refuses_rsvdWr18 : (Instr.rsvdWr18 0x20#7 0#8).wf = false := by decide
theorem test_wf_refuses_rsvdWr20 : (Instr.rsvdWr20 0x1F#7 0#8).wf = false := by decide

/-! ### Decoding: a word of each row, written out from its pattern of R98 -/

theorem test_decode_ROW_RD : decode 0b0_000_10_01_10101011#16 = .rowRd 2 1 0xAB := by decide
theorem test_decode_ROW_WR : decode 0b1_000_01_10_00001101#16 = .rowWr 1 2 0x0D := by decide
theorem test_decode_CTRL_RD : decode 0b0_0010000_00000000#16 = .ctrlRd 0x00 := by decide
theorem test_decode_CTRL_WR : decode 0b1_0010000_00000111#16 = .ctrlWr 0x07 := by decide
theorem test_decode_STATUS_RD : decode 0b0_0010001_00000000#16 = .statusRd 0x00 := by decide
theorem test_decode_STATUS_WR : decode 0b1_0010001_00000001#16 = .statusWr 0x01 := by decide
theorem test_decode_LAYER_RD : decode 0b0_0010010_00000000#16 = .layerRd 0x00 := by decide
theorem test_decode_LAYER_WR : decode 0b1_0010010_11111111#16 = .layerWr 0xFF := by decide
theorem test_decode_TICKCNT_RD : decode 0b0_0010011_00000000#16 = .tickcntRd 0x00 := by decide
theorem test_decode_TICKCNT_WR : decode 0b1_0010011_00000000#16 = .tickcntWr 0x00 := by decide
theorem test_decode_FRAMETAKE_RD : decode 0b0_0010100_00000000#16 = .frametakeRd 0x00 := by decide
theorem test_decode_FRAMETAKE_WR : decode 0b1_0010100_00000000#16 = .frametakeWr 0x00 := by decide
theorem test_decode_FRAMEDIV_RD : decode 0b0_0010101_00000000#16 = .framedivRd 0x00 := by decide
theorem test_decode_FRAMEDIV_WR : decode 0b1_0010101_00001010#16 = .framedivWr 0x0A := by decide
theorem test_decode_RSVD_RD_16 : decode 0b0_0010111_11111111#16 = .rsvdRd16 0x17 0xFF := by decide
theorem test_decode_RSVD_RD_18 : decode 0b0_0011000_00000000#16 = .rsvdRd18 0x18 0x00 := by decide
theorem test_decode_RSVD_RD_20 : decode 0b0_0111111_11111111#16 = .rsvdRd20 0x3F 0xFF := by decide
theorem test_decode_RSVD_WR_16 : decode 0b1_0010110_00000000#16 = .rsvdWr16 0x16 0x00 := by decide
theorem test_decode_RSVD_WR_18 : decode 0b1_0011111_11111111#16 = .rsvdWr18 0x1F 0xFF := by decide
theorem test_decode_RSVD_WR_20 : decode 0b1_0100000_00000000#16 = .rsvdWr20 0x20 0x00 := by decide
theorem test_decode_VOX_RD : decode 0b0_1_11_10_01_00000000#16 = .voxRd 3 2 1 0x00 := by decide
theorem test_decode_VOX_WR : decode 0b1_1_00_01_10_00000001#16 = .voxWr 0 1 2 0x01 := by decide
/-- The table's numbering: a 16-bit row, and one given no bits at all. -/
theorem test_decodeTableWord : decodeTableWord 16 0xFFFE = some (.voxWr 3 3 3 0xFE) ∧
    decodeTableWord 0 0 = some (.rowRd 0 0 0) := by decide

/-! ### The assembler (R102, W1) -/

theorem test_asm_out_of_range : asmWr (.vox 0 1 2) 256 = none := by decide
theorem test_asm_setvox : Pseudo.expand (.setvox 3 2 1) = some 0xDB01#16 := by decide

/-! ### Instructions, one step each -/

/-- V1. -/
theorem test_row_rd :
    after (perform 0x0100#16 (blank.setRow 0 1 0b0100)) (·.rdata) = some (some 0x04) := by decide
/-- V3, and that the neighbour keeps its value. -/
theorem test_row_wr : after (perform 0x8B0A#16 (blank.setRow 2 2 0b0110))
    (fun t => (t.row 2 3, t.row 2 2)) = some (0b1010, 0b0110) := by decide
/-- V2: DATA[7:4] is discarded. -/
theorem test_row_wr_discards : after (perform 0x8BFF#16 blank) (·.peek 0x0B) = some 0x0F := by
  decide
/-- V7. -/
theorem test_vox_rd :
    after (perform 0x4600#16 (blank.setRow 0 1 0b0100)) (·.rdata) = some (some 0x01) := by decide
/-- V7. -/
theorem test_vox_rd_off :
    after (perform 0x4500#16 (blank.setRow 0 1 0b0100)) (·.rdata) = some (some 0x00) := by decide
/-- V6. -/
theorem test_vox_wr_clears :
    after (perform 0xFF00#16 (blank.setRow 3 3 0b1111)) (·.row 3 3) = some 0b0111 := by decide
/-- V5: only DATA[0] counts. -/
theorem test_vox_wr_discards :
    after (perform 0xC602#16 (blank.setRow 0 1 0b0100)) (·.row 0 1) = some 0b0000 := by decide
/-- V24's last read: bit 0 reads the scheduler's state. -/
theorem test_ctrl_rd : after (perform 0x1000#16 (armed 0 0)) (·.rdata) = some (some 0x01) := by
  decide
/-- V25: ARM = 0 while Idle; IND and FIE set; reserved bits ignored. -/
theorem test_ctrl_wr_idle : after (perform 0x90FE#16 blank)
    (fun t => (t.run, t.ind, t.fie, t.ctrlByte)) = some (.idle, true, true, 0x06) := by decide
/-- V24: no disarm, and IND is rewritten. -/
theorem test_ctrl_wr_ticking : after (perform 0x9000#16 { armed 0 0 with ind := true })
    (fun t => (t.run, t.ind)) = some (.ticking, false) := by decide
/-- V33. -/
theorem test_status_rd :
    after (perform 0x1100#16 { armed 0 0 with frame := true, fie := true })
      (fun t => (t.rdata, t.frame)) = some (some 0x07, true) := by decide
/-- V36. -/
theorem test_status_wr :
    after (perform 0x9101#16 { armed 0 0 with frame := true }) (·.frame) = some true := by decide
/-- V26's read. -/
theorem test_layer_rd : after (perform 0x1200#16 (armed 2 0)) (·.rdata) = some (some 0x02) := by
  decide
/-- V26. -/
theorem test_layer_wr : after (perform 0x9200#16 (armed 2 0)) (·.layer) = some 2 := by decide
/-- V27's read. -/
theorem test_tickcnt_rd : after (perform 0x1300#16 (armed 0 5)) (·.rdata) = some (some 0x05) := by
  decide
/-- V27. -/
theorem test_tickcnt_wr : after (perform 0x9300#16 (armed 0 5)) (·.tcnt) = some 5 := by decide
/-- V34, first TAKE; V38: `irq` falls. -/
theorem test_frametake_rd :
    after (perform 0x1400#16 { armed 0 0 with frame := true, fie := true })
      (fun t => (t.rdata, t.frame, t.irq)) = some (some 0x01, false, false) := by decide
/-- V35. -/
theorem test_frametake_rd_empty :
    after (perform 0x1400#16 (armed 0 0)) (fun t => (t.rdata, t.frame)) =
      some (some 0x00, false) := by decide
/-- V36. -/
theorem test_frametake_wr :
    after (perform 0x9400#16 { armed 0 0 with frame := true }) (·.frame) = some true := by decide
/-- V28. -/
theorem test_framediv_rd : after (perform 0x1500#16 blank) (·.rdata) = some (some 0x18) := by decide
/-- V28: what FRAMEDIV reads afterwards. -/
theorem test_framediv_wr : after (perform 0x950A#16 blank) (·.peek 0x15) = some 0x18 := by decide
/-- V29, and the other two rows of RSVD_RD. -/
theorem test_rsvd_rd : after (perform 0x2000#16 blank) (·.rdata) = some (some 0x00) ∧
    after (perform 0x1600#16 blank) (·.rdata) = some (some 0x00) ∧
    after (perform 0x1FFF#16 blank) (·.rdata) = some (some 0x00) := by decide
/-- V29, and the other two rows of RSVD_WR: nothing changes. -/
theorem test_rsvd_wr : after (perform 0xBFFF#16 blank) id = some blank ∧
    after (perform 0x9600#16 blank) id = some blank ∧
    after (perform 0x9FFF#16 blank) id = some blank := by decide
/-- V37: setting FIE raises `irq` at once. -/
theorem test_irq_rises :
    after (perform 0x9005#16 { armed 0 0 with frame := true }) (·.irq) = some true := by decide
/-- `withFetchWord` places the word the next step performs, whatever was under way. -/
theorem test_withFetchWord :
    after (step ({ blank with engine := .driving [.clkFall] }.withFetchWord 16 0x9001))
      (fun t => (t.run, t.port)) = some (.ticking, []) := by decide

/-! ### Ticks -/

/-- The rows of V9. -/
def sampleRow (y : Coord) : Row :=
  if y = 0 then 0b0101 else if y = 1 then 0b0011 else if y = 2 then 0b1000 else 0b0110

/-- V9's layer as layer 1, armed at layer 0. -/
def sample : State :=
  { armed 0 0 with buf := bufOf fun z y => if z = 1 then sampleRow y else 0#4 }

/-- V10: the whole trace. -/
theorem test_tick_trace : sample.tick.trace =
    [.le 0b0000, .data false true, .clkRise, .clkFall, .data false false, .clkRise, .clkFall,
     .data false true, .clkRise, .clkFall, .data true false, .clkRise, .clkFall,
     .data false true, .clkRise, .clkFall, .data true true, .clkRise, .clkFall,
     .data true false, .clkRise, .clkFall, .data false false, .clkRise, .clkFall,
     .le 0b0010] := by rfl
/-- V10, V13: where it ends. -/
theorem test_tick_ends : (sample.tick.layer, sample.tick.tcnt, sample.tick.pins) =
    (1#2, 1#8, { dataA := false, dataB := false, sclk := false, le := 0b0010 }) := by decide
/-- V9: the chains afterwards, whatever they held. -/
theorem test_chains : observe Pins.reset { a := 0xFF, b := 0x5A } (shiftLayer sampleRow) =
    { a := 0x16, b := 0xAC } := by decide
/-- V18 and V14: the wrap of both counters, a boundary. -/
theorem test_tick_boundary :
    ((armed 3 23).tick.layer, (armed 3 23).tick.tcnt, (armed 3 23).tick.frame,
      (armed 3 23).tick.pins.le) = (0#2, 0#8, true, 0b0001#4) := by decide
/-- V19. -/
theorem test_tick_before_boundary :
    ((armed 0 22).tick.tcnt, (armed 0 22).tick.frame) = (23#8, false) := by decide
/-- V20: merged boundaries. -/
theorem test_tick_merges : State.frame (State.tick { armed 0 23 with frame := true }) = true := by
  decide
/-- V21: FRAME_DIV = 1. -/
theorem test_tick_every :
    (State.tcnt (State.tick { armed 0 0 with params := build 1 }),
      State.frame (State.tick { armed 0 0 with params := build 1 })) = (0#8, true) := by decide
/-- R202 on another machine. -/
theorem test_framediv_rd_other :
    after (perform 0x1500#16 (State.resetWith (build 200))) (·.rdata) = some (some 0xC8) := by decide
/-- R104: any condition on `v` can be written, here `v ≠ 0x02 and v[1] = 1`. -/
theorem test_cond : Cond.holds 0x03 (.and (.not (.vEq 0x02)) (.vBit 1 true)) = true ∧
    Cond.holds 0x02 (.and (.not (.vEq 0x02)) (.vBit 1 true)) = false := by decide
/-- V22. -/
theorem test_tick_irq : State.irq (State.tick { armed 0 23 with fie := true }) = true := by decide
/-- V17: nothing while Idle. -/
theorem test_tick_idle : blank.tick = blank := by decide
/-- R254: the strobe goes first, and the transaction waits. -/
theorem test_tick_first :
    after (step { armed 1 0 with inputs := [{ reset := false, tick := true, host := some 0x1200 }] })
      (fun t => (t.layer, t.busy, t.port, t.rdata)) = some (2, true, [0x1200], none) := by decide
/-- R196: a pending tick starts as the tick in progress ends, with its counter updated. -/
theorem test_pending_tick :
    after (step { armed 1 4 with engine := .driving [], tickPending := true, port := [0x1200] })
      (fun t => (t.layer, t.tcnt, t.busy, t.tickPending, t.port)) =
        some (2, 5, true, false, [0x1200]) := by decide
/-- R258: with no tick pending the held transaction is served as `busy` falls, on the counter the
tick leaves. -/
theorem test_held_served :
    after (step { armed 1 4 with engine := .driving [], port := [0x1300] })
      (fun t => (t.busy, t.port, t.rdata)) = some (false, [], some 5) := by decide
/-- V40, from the middle of a tick. -/
theorem test_reset :
    after (step { armed 2 7 with
        ind := true, frame := true, fie := true, inputs := [resetSlot], port := [0x1200],
        pins := { dataA := true, dataB := true, sclk := true, le := 0b0100 },
        engine := .driving [.clkFall], tickPending := true })
      (fun t => ([t.peek 0x10, t.peek 0x11, t.peek 0x12, t.peek 0x13], t.pins, t.irq)) =
    some ([0, 0, 0, 0], Pins.reset, false) := by decide
/-- V15: dark after reset. -/
theorem test_reset_dark : State.reset.pins.le = 0b0000 := by decide

/-! ### Witnesses: what meets the hypotheses of the obligations that have some, clause by clause -/

/-- The tick of `sample`, with its first `k` pin events driven. -/
def driven (k : Nat) : State :=
  { sample.beginTick with
    engine := .driving ((tickScript 1 sampleRow).drop k)
    trace := (tickScript 1 sampleRow).take k
    pins := Pins.reset.driveAll ((tickScript 1 sampleRow).take k) }

theorem driven_inv (k : Nat) : Inv (driven k) where
  tcnt := (by decide : (0#8).toNat < (24#8).toNat)
  idle h := nomatch h
  quiet h := nomatch h
  driving rest h := by
    cases h
    exact ⟨rfl, List.take_append_drop k _, Pins.reset, rfl, .inl rfl, rfl⟩

/-- The second tick of `sample`, about to begin: layer 1 is lit. -/
def lit : State := sample.tick.beginTick

theorem lit_inv : Inv lit where
  tcnt := by decide
  idle h := nomatch h
  quiet h := nomatch h
  driving rest h := by
    cases h
    exact ⟨rfl, rfl, sample.tick.pins, by decide, .inr ⟨1, by decide⟩, rfl⟩

/-- A run: reset, armed, one tick, back between ticks. -/
def firstTick (s : State) : Option (List TxnEvent × State) :=
  runSteps 29 { s with inputs := [issue 0x9001, strobe] }

theorem witness_DecodeOfEncode : (Instr.rsvdWr16 0x17#7 0xFF#8).wf = true ∧
    (Instr.rsvdRd18 0x18#7 0x01#8).wf = true ∧ (Instr.rsvdRd20 0x3F#7 0x80#8).wf = true ∧
    (Instr.voxWr 3 2 1 0xFE#8).wf = true := by decide

theorem witness_OperandFieldsOfTheWord :
    decode 0x0FAB#16 = .rowRd 3 3 0xAB ∧ decode 0x8601#16 = .rowWr 1 2 0x01 ∧
    decode 0x5BFF#16 = .voxRd 1 2 3 0xFF ∧ decode 0xFFFE#16 = .voxWr 3 3 3 0xFE := by decide

theorem witness_PseudoInstructionWords : 255 < 256 ∧ 256 ≤ 256 ∧
    Pseudo.expand (.setrow 3 3 255) = some 0x8FFF#16 ∧ Pseudo.expand (.setrow 3 3 256) = none := by
  decide

/-- A tick, a consume, a write to the neighbouring row and one to a voxel of the next layer. -/
theorem witness_WrittenValueIsReadBack :
    ∀ e ∈ [TxnEvent.tick, .host 0x1400, .host 0x800F, .host 0xD401], e ≠ .reset ∧
      e.writesRow 0 1 = false := by decide

theorem witness_SideEffectsOfTransactions :
    (0x13#7 : Addr) ≠ 0x14#7 ∧ (0x15#7 : Addr) ≠ 0x14#7 ∧
      State.frame { armed 0 0 with frame := true } = true := by decide

/-- The last row beside CTRL, the first voxel, CTRL between its neighbours, and both ends of the
addresses whose writes do nothing. -/
theorem witness_WritesLeaveOtherAddresses :
    (∃ t, hostWrite (rowAddr 3 3) 0x0F blank = .next t) ∧
    (0x10#7 ≠ rowAddr 3 3 ∧ ∀ x : Coord, 0x10#7 ≠ voxAddr 3 3 x) ∧
    (∃ t, hostWrite (voxAddr 0 0 0) 0x01 blank = .next t) ∧
    (0x41#7 ≠ rowAddr 0 0 ∧ 0x41#7 ≠ voxAddr 0 0 0) ∧
    (∃ t, hostWrite 0x10#7 0x07 blank = .next t) ∧ (0x12#7 ≠ 0x10#7 ∧ 0x12#7 ≠ (0x11#7 : Addr)) ∧
    (∃ t, hostWrite 0x11#7 0xFF blank = .next t) ∧ (∃ t, hostWrite 0x3F#7 0xFF blank = .next t) :=
  ⟨⟨_, rfl⟩, by decide, ⟨_, rfl⟩, by decide, ⟨_, rfl⟩, by decide, ⟨_, rfl⟩, _, rfl⟩

/-- A held transaction with another issued, a strobe while Idle, and an empty port. -/
theorem witness_StepPerformsThePortWord :
    (∃ s : State, s.slot.reset = false ∧ s.engine = .quiet ∧ s.slot.tick = false ∧
      s.run = .ticking ∧ s.port ++ s.slot.host.toList = [0x1400, 0x9001]) ∧
    (∃ s : State, s.slot.reset = false ∧ s.engine = .quiet ∧ s.slot.tick = true ∧
      s.run = .idle ∧ s.port ++ s.slot.host.toList = [0x9001]) ∧
    ∃ s : State, s.slot.reset = false ∧ s.engine = .quiet ∧ s.slot.tick = false ∧
      s.port ++ s.slot.host.toList = [] :=
  ⟨⟨{ armed 0 0 with port := [0x1400], inputs := [issue 0x9001] }, by decide⟩,
   ⟨{ blank with inputs := [{ strobe with host := some 0x9001 }] }, by decide⟩, blank, by decide⟩

theorem witness_PlacedWordIsPerformedNext : (16 ≤ 16 ∧ 0xFFFF < 2 ^ 16) ∧ 0 ≤ 16 ∧ 0 < 2 ^ 0 := by
  decide

theorem witness_IdleStrobeIsIgnored : ∃ s : State, s.run = .idle ∧ s.slot.reset = false ∧
    s.slot.tick = true ∧ s.engine = .quiet ∧ s.port = [] ∧ s.slot.host = none :=
  ⟨{ blank with inputs := [strobe] }, by decide⟩

theorem witness_TickGoesFirst : ∃ s : State, s.slot.reset = false ∧ s.engine = .quiet ∧
    s.slot.tick = true ∧ s.run = .ticking ∧ s.slot.host = some 0x1200 :=
  ⟨{ armed 3 23 with inputs := [{ strobe with host := some 0x1200 }] }, by decide⟩

/-- Inside a tick, and at its end with a strobe. -/
theorem witness_HostStallsWhileBusy :
    (∃ s : State, s.busy = true ∧ s.slot.reset = false ∧ s.engine = .driving [.le 0b0010] ∧
      s.slot.host = some 0x1400 ∧ s.frame = true) ∧
    ∃ s : State, s.busy = true ∧ s.slot.reset = false ∧ s.engine = .driving [] ∧
      s.slot.tick = true ∧ s.slot.host = some 0x1400 :=
  ⟨⟨{ driven 25 with frame := true, inputs := [issue 0x1400] }, by decide⟩,
   ⟨{ driven 26 with inputs := [{ strobe with host := some 0x1400 }] }, by decide⟩⟩

/-- The last pin event with a strobe; the end of the tick with a pending strobe; and with none, where
a transaction is issued and where none is. -/
theorem witness_StrobeDuringTickIsLatched :
    (∃ s : State, s.slot.reset = false ∧ s.slot.tick = true ∧ s.engine = .driving [.le 0b0010]) ∧
    (∃ s : State, s.slot.reset = false ∧ s.engine = .driving [] ∧ s.run = .ticking ∧
      s.tickPending = true) ∧
    (∃ s : State, s.slot.reset = false ∧ s.engine = .driving [] ∧ s.tickPending = false ∧
      s.slot.tick = false ∧ s.port ++ s.slot.host.toList = [0x1200]) ∧
    ∃ s : State, s.slot.reset = false ∧ s.engine = .driving [] ∧ s.tickPending = false ∧
      s.slot.tick = false ∧ s.port ++ s.slot.host.toList = [] :=
  ⟨⟨{ driven 25 with inputs := [strobe] }, by decide⟩,
   ⟨{ driven 26 with tickPending := true }, by decide⟩,
   ⟨{ driven 26 with inputs := [issue 0x1200] }, by decide⟩, driven 26, by decide⟩

/-- One pin event left and a transaction held: with a strobe only after the tick, and with one in
its last step. -/
theorem witness_StallIsBounded :
    (∃ (s : State) (now later : List Slot),
      s.engine = .driving [.le 0b0010] ∧ s.run = .ticking ∧ now.length = 2 ∧
      (∀ i ∈ now, i.reset = false) ∧ s.inputs = now ++ later ∧ s.tickPending = false ∧
      (∀ i ∈ now, i.tick = false) ∧ s.port = [0x1200] ∧ ∃ i ∈ later, i.tick = true) ∧
    ∃ (s : State) (now pending later : List Slot),
      s.engine = .driving [.le 0b0010] ∧ s.run = .ticking ∧ now.length = 2 ∧
      (∀ i ∈ now, i.reset = false) ∧ s.inputs = now ++ pending ++ later ∧
      (∃ i ∈ now, i.tick = true) ∧ pending.length = 27 ∧
      (∀ i ∈ pending, i.reset = false ∧ i.tick = false) ∧ s.port = [0x1200] ∧
      ∃ i ∈ later, i.tick = true :=
  ⟨⟨{ driven 25 with port := [0x1200], inputs := [Slot.none, issue 0x1300, strobe] },
    [Slot.none, issue 0x1300], [strobe], by decide⟩,
   ⟨{ driven 25 with
       port := [0x1200]
       inputs := [Slot.none, strobe] ++ List.replicate 27 Slot.none ++ [strobe] },
    [Slot.none, strobe], List.replicate 27 Slot.none, [strobe], by decide⟩⟩

theorem witness_ChainsAfterShift : sampleRow 0 = 0b0101 ∧ sampleRow 1 = 0b0011 ∧
    sampleRow 2 = 0b1000 ∧ sampleRow 3 = 0b0110 := by decide

/-- A buffer that differs in every row but layer 1's. -/
theorem witness_TickReadsOnlyItsLayer : ∃ b : Vector (Vector Row 4) 4, b ≠ sample.buf ∧
    ∀ y : Coord, ({ sample with buf := b } : State).row (sample.layer + 1) y =
      sample.row (sample.layer + 1) y :=
  ⟨bufOf fun z y => if z = 1 then sampleRow y else 0xF, by decide⟩

theorem witness_FourTicksShowEachLayerOnce : (armed 3 22).run = .ticking := by decide

/-- Four ticks with a transaction between the first two. -/
def fourTicks : List TxnEvent := [.tick, .host 0x1400, .tick, .tick, .tick]

/-- A write to a row of layer 3 while layer 0 is displayed, a consume and two ticks, and the tick that
displays layer 3; the same for one voxel of it. -/
theorem witness_WrittenRowReachesItsLine :
    (∀ e ∈ [TxnEvent.tick, .host 0x1400, .tick], e ≠ .reset ∧ e.writesRow 3 2 = false) ∧
    (∃ s1 s2, hostWrite (rowAddr 3 2) 0x0D sample = .next s1 ∧
      runEvents [.tick, .host 0x1400, .tick] s1 = .next s2 ∧ s2.run = .ticking ∧
      s2.layer + 1 = 3) ∧
    (∃ s1 s2, hostWrite (voxAddr 3 2 3) 0x01 sample = .next s1 ∧
      runEvents [.tick, .host 0x1400, .tick] s1 = .next s2 ∧ s2.run = .ticking ∧
      s2.layer + 1 = 3) ∧
    sample.run = .ticking ∧ (∀ e ∈ fourTicks, e ≠ .reset) ∧ 4 ≤ tickCount fourTicks :=
  ⟨by decide, ⟨_, _, rfl, rfl, rfl, by decide⟩, ⟨_, _, rfl, rfl, rfl, by decide⟩, by decide⟩

theorem witness_PictureIsTheBuffer : sample.run = .ticking ∧ sample.voxel 1 0 2 = true := by decide

/-- Both ends of the range of FRAME_DIV. -/
theorem witness_TickEffect :
    (∃ s : State, s.params = build 1 ∧ s.run = .ticking ∧
      s.tcnt.toNat < s.params.frameDiv.toNat) ∧
    (∃ s : State, s.params = build 255 ∧ s.tcnt = 254 ∧ s.run = .ticking ∧
      s.tcnt.toNat < s.params.frameDiv.toNat) ∧ blank.run = .idle :=
  ⟨⟨{ armed 0 0 with params := build 1 }, by decide⟩,
   ⟨{ armed 3 254 with params := build 255 }, by decide⟩, by decide⟩

theorem witness_PinLevelTickIsTick : ∃ (s : State) (a : Slot) (hs : List Slot),
    s.engine = .quiet ∧ s.run = .ticking ∧ s.tickPending = false ∧ s.inputs = (a :: hs) ++ [] ∧
    a.reset = false ∧ a.tick = true ∧ hs.length = 27 ∧
    ∀ h ∈ hs, h.reset = false ∧ h.tick = false :=
  ⟨{ sample with inputs := strobe :: List.replicate 27 (issue 0x1200) }, strobe,
   List.replicate 27 (issue 0x1200), by decide⟩

theorem witness_BoundariesMerge : (armed 0 23).run = .ticking ∧
    (armed 0 23).tcnt.toNat < (armed 0 23).params.frameDiv.toNat ∧
    ∀ e ∈ [TxnEvent.tick, .host 0x9007, .tick], e ≠ .reset ∧ e.isTake = false := by decide

/-- A tick and a disarming write before; the arming; a tick and a FRAMETAKE read; a tick since. -/
theorem witness_ClosedFormOfTicks : (build 1).legal ∧
    (∀ e ∈ [TxnEvent.tick, .host 0x9006], e ≠ .reset ∧ e.isArm = false) ∧
    (TxnEvent.host 0x9001).isArm = true ∧
    (∀ e ∈ [TxnEvent.tick, .host 0x1400] ++ [TxnEvent.tick], e ≠ .reset) ∧
    (∃ es e, [TxnEvent.tick, .host 0x1400] = es ++ [e] ∧ e.isTake = true) ∧
    ∀ e ∈ [TxnEvent.tick], e.isTake = false :=
  ⟨by unfold Params.legal; decide, by decide, by decide, by decide,
   ⟨[.tick], .host 0x1400, by decide⟩, by decide⟩

theorem witness_InvariantAtReset : (build 1).legal ∧ (build 255).legal := by
  unfold Params.legal
  decide

/-- A Ticking block, an Idle one that is armed, an Idle one that is not. -/
theorem witness_ArmingIsOneWay :
    (∃ s t : State, step s = .next t ∧ s.slot.reset = false ∧ s.run = .ticking) ∧
    (∃ s t : State, step s = .next t ∧ s.slot.reset = false ∧ Inv s ∧ s.run = .idle ∧
      t.run = .ticking) ∧
    ∃ s t : State, step s = .next t ∧ s.slot.reset = false ∧ s.run = .idle ∧ t.run = .idle :=
  ⟨⟨{ armed 0 0 with port := [0x9000] }, _, rfl, rfl, rfl⟩,
   ⟨{ blank with port := [0x9001] }, _, rfl, rfl,
    { tcnt := by decide, idle := fun _ => ⟨rfl, rfl, rfl, rfl, rfl, rfl, rfl⟩,
      quiet := fun _ => ⟨rfl, rfl, rfl⟩, driving := fun _ h => nomatch h }, rfl, rfl⟩,
   ⟨{ blank with port := [0x9006] }, _, rfl, rfl, rfl, rfl⟩⟩

/-- A step that changes each of the fields the statement names. -/
theorem witness_SingleWriters :
    (∃ s t : State, step s = .next t ∧ s.slot.reset = false ∧ t.row 0 0 ≠ s.row 0 0) ∧
    (∃ s t : State, step s = .next t ∧ s.slot.reset = false ∧ t.layer ≠ s.layer) ∧
    (∃ s t : State, step s = .next t ∧ s.slot.reset = false ∧ t.tcnt ≠ s.tcnt ∧
      s.frame = false ∧ t.frame = true) ∧
    (∃ s t : State, step s = .next t ∧ s.slot.reset = false ∧ s.frame = true ∧
      t.frame = false) ∧
    ∃ s t : State, step s = .next t ∧ s.slot.reset = false ∧ t.run ≠ s.run ∧ t.ind ≠ s.ind ∧
      t.fie ≠ s.fie :=
  ⟨⟨{ blank with port := [0x800F] }, _, rfl, by decide⟩,
   ⟨{ armed 0 0 with inputs := [strobe] }, _, rfl, by decide⟩,
   ⟨{ driven 26 with tcnt := 23 }, _, rfl, by decide⟩,
   ⟨{ armed 0 0 with frame := true, port := [0x1400] }, _, rfl, by decide⟩,
   ⟨{ blank with port := [0x9007] }, _, rfl, by decide⟩⟩

/-- Both ways `irq` rises and both ways it falls, event by event. -/
theorem witness_IrqRisesAndFalls_events :
    (∃ s t : State, applyEvent .tick s = .next t ∧ s.irq = false ∧ t.irq = true) ∧
    (∃ s t : State, applyEvent (.host 0x9005) s = .next t ∧ s.irq = false ∧ t.irq = true) ∧
    (∃ s t : State, applyEvent (.host 0x1400) s = .next t ∧ s.irq = true ∧ t.irq = false) ∧
    ∃ s t : State, applyEvent (.host 0x9001) s = .next t ∧ s.irq = true ∧ t.irq = false :=
  ⟨⟨{ armed 0 23 with fie := true }, _, rfl, by decide⟩,
   ⟨{ armed 0 0 with frame := true }, _, rfl, by decide⟩,
   ⟨{ armed 0 0 with frame := true, fie := true }, _, rfl, by decide⟩,
   ⟨{ armed 0 0 with frame := true, fie := true }, _, rfl, by decide⟩⟩

/-- The same step by step; and a boundary whose `irq` a FRAMETAKE read takes as `busy` falls. -/
theorem witness_IrqRisesAndFalls :
    (∃ s t : State, step s = .next t ∧ s.slot.reset = false ∧ s.irq = false ∧ t.irq = true ∧
      s.engine = .driving []) ∧
    (∃ s t : State, step s = .next t ∧ s.slot.reset = false ∧ s.irq = false ∧ t.irq = true ∧
      s.engine = .quiet) ∧
    (∃ s t : State, step s = .next t ∧ s.slot.reset = false ∧ s.irq = true ∧ t.irq = false ∧
      t.fie = true) ∧
    (∃ s t : State, step s = .next t ∧ s.slot.reset = false ∧ s.irq = true ∧ t.irq = false ∧
      t.frame = true) ∧
    ∃ s t : State, step s = .next t ∧ s.slot.reset = false ∧ s.irq = false ∧ t.irq = false ∧
      t.rdata = some 0x01 :=
  ⟨⟨{ driven 26 with tcnt := 23, fie := true }, _, rfl, by decide⟩,
   ⟨{ armed 0 0 with frame := true, port := [0x9005] }, _, rfl, by decide⟩,
   ⟨{ armed 0 0 with frame := true, fie := true, port := [0x1400] }, _, rfl, by decide⟩,
   ⟨{ armed 0 0 with frame := true, fie := true, port := [0x9001] }, _, rfl, by decide⟩,
   ⟨{ driven 26 with tcnt := 23, fie := true, port := [0x1400] }, _, rfl, by decide⟩⟩

theorem witness_ResetFromAnyState : ∃ s : State, s.slot.reset = true ∧ s.busy = true ∧
    s.port = [0x1200] := ⟨{ driven 7 with inputs := [resetSlot], port := [0x1200] }, by decide⟩

/-- A step in the middle of a tick, and the step that ends it. -/
theorem witness_StepKeepsInvariant : ∃ t u : State, Inv (driven 12) ∧ step (driven 12) = .next t ∧
    Inv (driven 26) ∧ step (driven 26) = .next u ∧ u.engine = .quiet :=
  ⟨_, _, driven_inv 12, rfl, driven_inv 26, rfl, rfl⟩

/-- A step that darkens the lit layer, and one that lights the next. -/
theorem witness_LayersNeverOverlap : ∃ t u : State, Inv lit ∧ step lit = .next t ∧
    lit.pins.le ≠ t.pins.le ∧ Inv (driven 25) ∧ step (driven 25) = .next u ∧
    (driven 25).pins.le ≠ u.pins.le :=
  ⟨_, _, lit_inv, rfl, by decide, driven_inv 25, rfl, by decide⟩

/-- A step that changes a data line, and the clock edge after it. -/
theorem witness_LinesChangeOnlyInTheDark : ∃ t u : State, Inv (driven 1) ∧
    step (driven 1) = .next t ∧ (driven 1).slot.reset = false ∧
    t.pins.dataB ≠ (driven 1).pins.dataB ∧ Inv (driven 2) ∧ step (driven 2) = .next u ∧
    (driven 2).slot.reset = false ∧ u.pins.sclk ≠ (driven 2).pins.sclk :=
  ⟨_, _, driven_inv 1, rfl, rfl, by decide, driven_inv 2, rfl, rfl, by decide⟩

theorem witness_OneLayerBetweenTicks : ∃ (es : List TxnEvent) (t : State),
    Config.standard.legal ∧ (∀ i ∈ [issue 0x9001, strobe], i.reset = false) ∧
    firstTick State.reset = some (es, t) ∧
    t.engine = .quiet ∧ TxnEvent.tick ∈ es :=
  ⟨_, _, by unfold Params.legal; decide, by decide, rfl, rfl, by decide⟩

theorem witness_RunsRefineTransactions : ∃ (es : List TxnEvent) (t : State),
    firstTick blank = some (es, t) ∧ es = [.host 0x9001, .tick] := ⟨_, _, rfl, by decide⟩

/-! ### Witnesses: the host's procedures -/

/-- A host program on a block, before its first turn. -/
def running (prog : HostCmd) (s : State) : System := { lcre := s, prog := prog, v := 0, log := [] }

theorem witness_FramesyncZeroDoesNothing : ∃ p : System, p.prog = framesync 0 ∧
    Turn.reset ∉ [Turn.host, .tick] ∧ p.lcre.frame = true :=
  ⟨running (framesync 0) { armed 0 23 with frame := true }, by decide⟩

/-- The discarding read, the tick that is a boundary, and the turns to consume it and return. -/
def oneFrame : List Turn := .host :: .tick :: List.replicate 12 .host

theorem witness_FramesyncConsumesExactlyN : Turn.reset ∉ oneFrame ∧
    ((running (framesyncWith pollFrame 1) (armed 0 23)).runTurns oneFrame).prog = .skip ∧
    ((running (framesyncWith pollFrameIrq 1)
      { armed 0 23 with fie := true }).runTurns oneFrame).prog = .skip := by decide

theorem witness_FramesyncHangsWhileIdle : Turn.reset ∉ oneFrame ∧ blank.run = .idle ∧ 1 ≤ 1 := by
  decide

/-- One frame of 24 ticks from a counter at 22: turns after the boundary, the second tick, only. -/
theorem witness_FramesyncReturnsInTime : ∃ (hs : List Nat) (s t : State),
    (s.run = .ticking ∧ s.tcnt.toNat < s.params.frameDiv.toNat ∧
      hs.length = 1 * s.params.frameDiv.toNat ∧
      ∀ k h : Nat, hs[k]? = some h →
        (s.tcnt.toNat + k + 1) % s.params.frameDiv.toNat = 0 → 8 ≤ h ∧ 10 ≤ h) ∧
    t.run = .ticking ∧ t.fie = true ∧ t.params = s.params ∧ t.tcnt = s.tcnt := by
  refine ⟨[0, 10] ++ List.replicate 22 0, armed 0 22, { armed 0 22 with fie := true },
    ⟨by decide, by decide, by decide, ?_⟩, by decide, by decide, by decide, by decide⟩
  intro k h hk hb
  have hk' : k < 24 := (List.getElem?_eq_some_iff.1 hk).1
  have hb' : (22 + k + 1) % 24 = 0 := hb
  obtain rfl : k = 1 := by omega
  cases hk
  decide

/-- An armed block ticked again and again. -/
def ticked (k : Nat) : State := State.tick^[k] (armed 0 0)

theorem ticked_run (k : Nat) : (ticked k).run = .ticking := by
  induction k with
  | zero => rfl
  | succ k ih =>
    rw [ticked, Function.iterate_succ_apply']
    change (State.tick (ticked k)).run = .ticking
    rw [State.tick, ih]
    exact ih

theorem ticked_isRun : IsRun ticked fun _ => .tick where
  follows k := congrArg Host.Outcome.next (Function.iterate_succ_apply' State.tick k _).symm
  progress _ m := ⟨m, le_refl m, rfl⟩

/-- A step in which a strobe and nothing else arrives. -/
def strobed (s : State) : State :=
  match step (s.given strobe) with
  | .next t => t
  | .fault _ => s
  | .refused _ => s

theorem strobed_step (s : State) (hp : s.port = []) (hr : s.run = .ticking) :
    step (s.given strobe) = .next (strobed s) ∧ (strobed s).port = [] ∧
      (strobed s).run = .ticking := by
  obtain ⟨buf, layer, tcnt, frame, run, ind, fie, pins, engine, pend, trace, rdata, port, inputs,
    params⟩ := s
  cases hp
  cases hr
  cases engine with
  | quiet => exact ⟨rfl, rfl, rfl⟩
  | driving rest =>
    cases rest with
    | nil => cases pend <;> exact ⟨rfl, rfl, rfl⟩
    | cons e rest => exact ⟨rfl, rfl, rfl⟩

theorem strobed_iterate (k : Nat) :
    (strobed^[k] (armed 0 0)).port = [] ∧ (strobed^[k] (armed 0 0)).run = .ticking := by
  induction k with
  | zero => exact ⟨rfl, rfl⟩
  | succ k ih =>
    rw [Function.iterate_succ_apply']
    exact (strobed_step _ ih.1 ih.2).2

/-- The host and the ticks by turns. -/
def byTurns (k : Nat) : Turn := if k % 2 = 0 then .host else .tick

theorem byTurns_fair (p : System) : p.Fair byTurns where
  progress _ m := ⟨2 * m + 1, by omega, by simp [byTurns, Nat.add_mod]⟩
  host m := ⟨2 * m, by omega, by simp [byTurns]⟩

/-- A run of ticks; a pin-level run with a strobe in every step; a fair schedule, for a block in each
form's state. -/
theorem witness_ProgressEndsTheWait :
    (IsRun ticked (fun _ => .tick) ∧ (ticked 0).tcnt.toNat < (ticked 0).params.frameDiv.toNat ∧
      ∀ k, 0 ≤ k → (ticked k).run = .ticking) ∧
    ((∀ k, step ((strobed^[k] (armed 0 0)).given strobe) = .next (strobed^[k + 1] (armed 0 0))) ∧
      ∀ m : Nat, ∃ k, m ≤ k ∧ strobe.tick = true) ∧
    (armed 0 0).run = .ticking ∧ State.fie { armed 0 0 with fie := true } = true ∧
      (armed 0 0).tcnt.toNat < (armed 0 0).params.frameDiv.toNat ∧
      (∀ k, byTurns k ≠ .reset) ∧ ∀ p : System, p.Fair byTurns := by
  refine ⟨⟨ticked_isRun, by decide, fun k _ => ticked_run k⟩,
    ⟨fun k => ?_, fun m => ⟨m, le_refl m, rfl⟩⟩, rfl, rfl, by decide, fun k => ?_, byTurns_fair⟩
  · rw [Function.iterate_succ_apply']
    exact (strobed_step _ (strobed_iterate k).1 (strobed_iterate k).2).1
  · unfold byTurns
    split <;> decide

/-- A boundary at the first tick and four more, each followed by the turns to consume it. -/
def warmup : List Turn :=
  List.flatten
    [List.replicate 8 Turn.host, [Turn.tick], List.replicate 8 Turn.host,
     (List.replicate 4 (List.replicate 24 Turn.tick ++ List.replicate 8 Turn.host)).flatten,
     List.replicate 4 Turn.host]

set_option maxRecDepth 8000 in
theorem witness_InitArmsWaitsAndIndicates : Turn.reset ∉ warmup ∧
    ((running (initProc (armed 0 23).params) (armed 0 23)).runTurns warmup).prog = .skip :=
  ⟨by decide, by rfl⟩

end Sys2Proof.Tests
end

/-! ## Proofs: the state after reset (10_state.md R46) -/

namespace Sys2Proof.Machine

/-- The invariant of LCRE at reset, whatever inputs are to come: idle, dark, and the counter at 0,
which is in range because FRAME_DIV is at least 1. -/
theorem inv_resetWith {p : Params} (hp : p.legal) (ins : List Slot) :
    Inv { State.resetWith p with inputs := ins } where
  tcnt := hp
  idle _ := ⟨rfl, rfl, rfl, rfl, rfl, rfl, rfl⟩
  quiet _ := ⟨rfl, rfl, rfl⟩
  driving _ h := nomatch h

theorem standard_legal : Config.standard.legal := by
  change 1 ≤ (24#8).toNat
  decide

/-- Settles O49: reset leaves LCRE idle with the counter at 0. -/
theorem invariantAtReset : Obligations.InvariantAtReset :=
  ⟨fun _ ins hp => inv_resetWith hp ins, standard_legal, inv_resetWith standard_legal []⟩

end Sys2Proof.Machine

/-! ## Proofs: rules for host programs run beside LCRE (R12, R70, R104)

A triple `{A} c {B}` says: started where `A` holds, under a schedule without a reset, the host
program `c` has made `B` true when it has returned. Ticks may come between any two turns of the
host, so every assertion is to be stable under them. Loops have no bound, so a triple carries a
bound on the length of the schedule, and the rule for a loop is an induction on it. -/

namespace Sys2Proof.Machine

/-- What is claimed of LCRE, of the host's `v` and of the record. -/
abbrev Assertion := State → Byte → List Happening → Prop

/-- The assertion holds in a system, whatever program its host has left. -/
def System.Sat (p : System) (A : Assertion) : Prop := A p.lcre p.v p.log

/-- What is recorded of a strobe. -/
def State.tickHappening (s : State) : Happening :=
  if s.ticking then .tick (isBoundary s.params.frameDiv s.tcnt) else .ignored

/-- A strobe on the tick input leaves the assertion true. -/
def Assertion.Stable (A : Assertion) : Prop :=
  ∀ s v l, A s v l → A s.tick v (l ++ [s.tickHappening])

theorem Assertion.Stable.tickTurn {A : Assertion} (hA : A.Stable) {p : System} (h : p.Sat A) :
    p.tickTurn.Sat A :=
  hA _ _ _ h

@[simp] theorem State.tickHappening_isXact (s : State) : s.tickHappening.isXact = false := by
  cases h : s.ticking <;> simp [State.tickHappening, h, Happening.isXact]

@[simp] theorem State.tick_run (s : State) : s.tick.run = s.run := by
  cases h : s.run <;> simp [State.tick, h]

@[simp] theorem State.tick_ind (s : State) : s.tick.ind = s.ind := by
  cases h : s.run <;> simp [State.tick, h]

@[simp] theorem State.tick_fie (s : State) : s.tick.fie = s.fie := by
  cases h : s.run <;> simp [State.tick, h]

/-- A tick sets `frame` exactly when it is recorded as a boundary (R193). -/
theorem State.tick_frame (s : State) :
    s.tick.frame = (s.frame || s.tickHappening.isBoundary) := by
  cases h : s.run <;>
    simp [State.tick, State.tickHappening, State.ticking, h, Happening.isBoundary]

/-! ### Turns and runs -/

@[simp] theorem System.runTurns_nil (p : System) : p.runTurns [] = p := rfl

@[simp] theorem System.runTurns_cons (p : System) (t : Turn) (ts : List Turn) :
    p.runTurns (t :: ts) = (p.turn t).runTurns ts := rfl

/-- Only a program that has returned has no move. -/
theorem HostCmd.move_eq_done {c : HostCmd} {v : Byte} {irq : Bool} :
    c.move v irq = .done ↔ c = .skip := by
  cases c with
  | skip => simp [HostCmd.move]
  | xact w => simp [HostCmd.move]
  | seq a b => simp only [HostCmd.move]; split <;> simp
  | loopUntil body c => simp [HostCmd.move]
  | repeatN n body => cases n <;> simp [HostCmd.move]
  | ifThen c body => simp [HostCmd.move]
  | waitIrq => cases irq <;> simp [HostCmd.move]

theorem System.hostTurn_skip {p : System} (h : p.prog = .skip) : p.hostTurn = p := by
  simp [System.hostTurn, h, HostCmd.move]

theorem System.hostTurn_silent {p : System} {c : HostCmd}
    (h : p.prog.move p.v p.lcre.irq = .silent c) : p.hostTurn = { p with prog := c } := by
  simp [System.hostTurn, h]

/-- A turn in which the host issues `w` and LCRE performs it. -/
theorem System.hostTurn_issue {p : System} {w : Word16} {c : HostCmd} {t : State}
    (h : p.prog.move p.v p.lcre.irq = .issue w c) (ht : exec (decode w) p.lcre = .next t) :
    p.hostTurn =
      { lcre := t, prog := c, v := t.rdata.getD p.v, log := p.log ++ [.xact w t.rdata] } := by
  simp [System.hostTurn, h, System.transact, applyEvent, ht]

/-! ### Sequences -/

/-- The system whose host goes on with `b` when its program has returned. -/
def System.andThen (p : System) (b : HostCmd) : System := { p with prog := .seq p.prog b }

theorem System.transact_andThen (p : System) (w : Word16) (c b : HostCmd) :
    (p.andThen b).transact w (.seq c b) = (p.transact w c).andThen b := by
  have hl : (p.andThen b).lcre = p.lcre := rfl
  unfold System.transact
  rw [hl]
  cases applyEvent (.host w) p.lcre <;> rfl

/-- While its first part has not returned, a sequence moves as its first part does. -/
theorem System.hostTurn_andThen {p : System} (h : p.prog ≠ .skip) (b : HostCmd) :
    (p.andThen b).hostTurn = p.hostTurn.andThen b := by
  cases hm : p.prog.move p.v p.lcre.irq with
  | done => exact absurd (HostCmd.move_eq_done.1 hm) h
  | wait => simp [System.hostTurn, System.andThen, HostCmd.move, hm]
  | silent c => simp [System.hostTurn, System.andThen, HostCmd.move, hm]
  | issue w c =>
    have := p.transact_andThen w c b
    simpa [System.hostTurn, System.andThen, HostCmd.move, hm] using this

theorem System.hostTurn_andThen_skip {p : System} (h : p.prog = .skip) (b : HostCmd) :
    (p.andThen b).hostTurn = { p with prog := b } := by
  simp [System.hostTurn, System.andThen, HostCmd.move, h]

/-- A sequence that returns: its first part returns, one turn passes to the second, and the second
returns. -/
theorem System.runTurns_andThen (b : HostCmd) (ts : List Turn) (p : System)
    (h : ((p.andThen b).runTurns ts).prog = .skip) :
    ∃ ts₁ ts₂, ts = ts₁ ++ .host :: ts₂ ∧ (p.runTurns ts₁).prog = .skip ∧
      (p.andThen b).runTurns ts = ({ p.runTurns ts₁ with prog := b } : System).runTurns ts₂ := by
  induction ts generalizing p with
  | nil => cases h
  | cons t ts ih =>
    have goOn (ht : (p.andThen b).turn t = (p.turn t).andThen b) :
        ∃ ts₁ ts₂, t :: ts = ts₁ ++ .host :: ts₂ ∧ (p.runTurns ts₁).prog = .skip ∧
          (p.andThen b).runTurns (t :: ts) =
            ({ p.runTurns ts₁ with prog := b } : System).runTurns ts₂ := by
      rw [System.runTurns_cons, ht] at h ⊢
      obtain ⟨ts₁, ts₂, rfl, hskip, hrun⟩ := ih (p.turn t) h
      exact ⟨t :: ts₁, ts₂, rfl, hskip, hrun⟩
    cases t with
    | tick => exact goOn rfl
    | reset => exact goOn rfl
    | host =>
      by_cases hp : p.prog = .skip
      · refine ⟨[], ts, rfl, hp, ?_⟩
        exact congrArg (System.runTurns · ts) (System.hostTurn_andThen_skip hp b)
      · exact goOn (System.hostTurn_andThen hp b)

/-! ### Triples -/

/-- Under every schedule without a reset of fewer than `n` turns that ends the host's program, `B`
holds at the end. -/
def System.EndsIn (p : System) (n : Nat) (B : Assertion) : Prop :=
  ∀ ts : List Turn, ts.length < n → Turn.reset ∉ ts → (p.runTurns ts).prog = .skip →
    (p.runTurns ts).Sat B

/-- The triple `{A} c {B}`, for schedules of fewer than `n` turns. -/
def HostTriple (n : Nat) (A : Assertion) (c : HostCmd) (B : Assertion) : Prop :=
  ∀ p : System, p.prog = c → p.Sat A → p.EndsIn n B

section
variable {n : Nat} {A B C : Assertion} {a b c : HostCmd}

theorem HostTriple.strengthen (h : HostTriple n B c C) (hAB : ∀ s v l, A s v l → B s v l) :
    HostTriple n A c C :=
  fun p hp hs => h p hp (hAB _ _ _ hs)

theorem HostTriple.weaken (h : HostTriple n A c B) (hBC : ∀ s v l, B s v l → C s v l) :
    HostTriple n A c C :=
  fun p hp hs ts hn hr hend => hBC _ _ _ (h p hp hs ts hn hr hend)

theorem HostTriple.skip (hA : A.Stable) : HostTriple n A .skip A := by
  intro p hp hs ts hn hr hend
  induction ts generalizing p with
  | nil => exact hs
  | cons t ts ih =>
    rw [List.mem_cons, not_or] at hr
    obtain ⟨ht, hr⟩ := hr
    rw [List.length_cons] at hn
    cases t with
    | reset => exact absurd rfl ht
    | tick => exact ih p.tickTurn hp (hA.tickTurn hs) (by omega) hr hend
    | host =>
      have hstay : p.turn .host = p := System.hostTurn_skip hp
      rw [System.runTurns_cons, hstay] at hend ⊢
      exact ih p hp hs (by omega) hr hend

/-- A program that has not returned: ticks pass, then the host has its first turn. -/
theorem HostTriple.of_hostTurn (hA : A.Stable) (hc : c ≠ .skip)
    (h : ∀ m < n, ∀ p : System, p.prog = c → p.Sat A → p.hostTurn.EndsIn m B) :
    HostTriple n A c B := by
  intro p hp hs ts hn hr hend
  induction ts generalizing p with
  | nil => exact absurd (hp.symm.trans hend) hc
  | cons t ts ih =>
    rw [List.mem_cons, not_or] at hr
    obtain ⟨ht, hr⟩ := hr
    rw [List.length_cons] at hn
    cases t with
    | reset => exact absurd rfl ht
    | tick => exact ih p.tickTurn hp (hA.tickTurn hs) (by omega) hr hend
    | host => exact h _ hn p hp hs ts (Nat.lt_succ_self _) hr hend

theorem HostTriple.xact {w : Word16} (hA : A.Stable) (hB : B.Stable)
    (h : ∀ s v l, A s v l → ∃ t, exec (decode w) s = .next t ∧
      B t (t.rdata.getD v) (l ++ [.xact w t.rdata])) : HostTriple n A (.xact w) B := by
  refine .of_hostTurn hA (by simp) fun m _ p hp hs => ?_
  obtain ⟨t, ht, hBt⟩ := h _ _ _ hs
  rw [System.hostTurn_issue (c := .skip) (by rw [hp]; rfl) ht]
  exact HostTriple.skip hB _ rfl hBt

theorem HostTriple.seq (ha : HostTriple n A a B) (hb : HostTriple n B b C) :
    HostTriple n A (.seq a b) C := by
  intro p hp hs ts hn hr hend
  have hq : p = ({ p with prog := a } : System).andThen b := by simp [System.andThen, ← hp]
  rw [hq] at hend ⊢
  obtain ⟨ts₁, ts₂, rfl, hskip, hrun⟩ := System.runTurns_andThen b ts _ hend
  rw [hrun] at hend ⊢
  simp only [List.length_append, List.length_cons, List.mem_append, List.mem_cons, not_or] at hn hr
  obtain ⟨hr₁, -, hr₂⟩ := hr
  have hmid := ha { p with prog := a } rfl hs ts₁ (by omega) hr₁ hskip
  exact hb { System.runTurns { p with prog := a } ts₁ with prog := b } rfl hmid ts₂ (by omega)
    hr₂ hend

/-- A turn in which only the program changes. -/
theorem HostTriple.silent (hA : A.Stable) (hmove : ∀ v irq, c.move v irq = .silent a)
    (h : ∀ m < n, HostTriple m A a B) : HostTriple n A c B := by
  have hc : c ≠ .skip := fun hskip => by simpa [hskip, HostCmd.move] using hmove 0 false
  refine .of_hostTurn hA hc fun m hm p hp hs => ?_
  rw [System.hostTurn_silent (by rw [hp]; exact hmove _ _)]
  exact h m hm _ rfl hs

theorem HostTriple.ifThen {d : Cond} (hA : A.Stable) (hB : B.Stable)
    (hthen : ∀ m < n, HostTriple m (fun s v l => A s v l ∧ d.holds v = true) a B)
    (helse : ∀ s v l, A s v l → d.holds v = false → B s v l) :
    HostTriple n A (.ifThen d a) B := by
  refine .of_hostTurn hA (by simp) fun m hm p hp hs => ?_
  rw [System.hostTurn_silent (by rw [hp]; rfl)]
  cases hd : d.holds p.v with
  | true => exact hthen m hm _ rfl ⟨hs, hd⟩
  | false => exact HostTriple.skip hB _ rfl (helse _ _ _ hs hd)

/-- `until`: the body makes `B` true; where the test then fails `A` holds again. -/
theorem HostTriple.loopUntil {d : Cond} (hA : A.Stable) (hB : B.Stable) (hC : C.Stable)
    (hbody : ∀ n, HostTriple n A a B) (hagain : ∀ s v l, B s v l → d.holds v = false → A s v l)
    (hdone : ∀ s v l, B s v l → d.holds v = true → C s v l) :
    HostTriple n A (.loopUntil a d) C := by
  induction n using Nat.strong_induction_on with
  | _ n ih =>
  have htest : ∀ m < n, HostTriple m B (.ifThen (.not d) (.loopUntil a d)) C := by
    refine fun m hm => .ifThen hB hC (fun k hk => ?_) fun s v l h hd => ?_
    · refine (ih k (hk.trans hm)).strengthen fun s v l h => hagain s v l h.1 ?_
      simpa [Cond.holds] using h.2
    · exact hdone s v l h (by simpa [Cond.holds] using hd)
  exact .silent hA (fun _ _ => rfl) fun m hm => (hbody m).seq (htest m hm)

/-- `repeat`: with `k` rounds behind it, each round of the body takes `I k` to `I (k + 1)`. -/
theorem HostTriple.repeatN {I : Nat → Assertion} (hI : ∀ k, (I k).Stable)
    (hbody : ∀ n k, HostTriple n (I k) a (I (k + 1))) (m k : Nat) :
    HostTriple n (I k) (.repeatN m a) (I (k + m)) := by
  induction m generalizing n k with
  | zero => exact .silent (hI k) (fun _ _ => rfl) fun _ _ => .skip (hI k)
  | succ m ih =>
    rw [show k + (m + 1) = k + 1 + m by omega]
    exact .silent (hI k) (fun _ _ => rfl) fun _ _ => (hbody _ k).seq (ih (k + 1))

end

end Sys2Proof.Machine

/-! ## Proofs: INIT (44_frame_sync.md R228, R294) -/

namespace Sys2Proof.Machine

/-! ### What the transactions of INIT do -/

theorem exec_takeWord (s : State) :
    exec (decode takeWord) s = .next (s.clearFrame.respond (zextBit s.frame)) := rfl

theorem exec_armWord (s : State) :
    exec (decode 0x9001#16) s = .next (s.writeCtrl 0x01#8).acknowledge := rfl

theorem exec_lastWord (s : State) :
    exec (decode 0x9003#16) s = .next (s.writeCtrl 0x03#8).acknowledge := rfl

@[simp] theorem gotFrame_holds (v : Byte) : gotFrame.holds v = v[0] := by
  simp [gotFrame, Cond.holds]

@[simp] theorem zextBit_getElem_zero (b : Bool) : (zextBit b)[0] = b := by
  cases b <;> rfl

/-! ### The record while INIT runs -/

/-- Nothing in the record is a transaction. -/
def NoXact (l : List Happening) : Prop := ∀ h ∈ l, h.isXact = false

/-- Every transaction in the record is a FRAMETAKE read. -/
def OnlyTakes (l : List Happening) : Prop :=
  ∀ h ∈ l, h.isXact = true → ∃ b, h = .xact takeWord (some b)

theorem NoXact.concat {l : List Happening} (hl : NoXact l) {h : Happening}
    (hh : h.isXact = false) : NoXact (l ++ [h]) := by
  simpa [NoXact, or_imp, forall_and] using And.intro hl hh

theorem OnlyTakes.concat {l : List Happening} (hl : OnlyTakes l) {h : Happening}
    (hh : h.isXact = true → ∃ b, h = .xact takeWord (some b)) : OnlyTakes (l ++ [h]) := by
  simpa [OnlyTakes, or_imp, forall_and] using And.intro hl hh

/-- The record while INIT waits: the arming write, and since then FRAMETAKE reads alone and at least
`c` boundaries. -/
def Warming (c : Nat) (l : List Happening) : Prop :=
  ∃ pre mid, l = pre ++ .xact 0x9001#16 none :: mid ∧ NoXact pre ∧ OnlyTakes mid ∧
    c ≤ mid.countP Happening.isBoundary

theorem Warming.mono {c d : Nat} {l : List Happening} (h : Warming c l) (hd : d ≤ c) :
    Warming d l := by
  obtain ⟨pre, mid, hl, hpre, hmid, hc⟩ := h
  exact ⟨pre, mid, hl, hpre, hmid, hd.trans hc⟩

/-- The record grows; a boundary counts. -/
theorem Warming.concat {c : Nat} {l : List Happening} (hl : Warming c l) {h : Happening}
    (hh : h.isXact = true → ∃ b, h = .xact takeWord (some b)) :
    Warming (c + h.isBoundary.toNat) (l ++ [h]) := by
  obtain ⟨pre, mid, rfl, hpre, hmid, hc⟩ := hl
  refine ⟨pre, mid ++ [h], by simp, hpre, hmid.concat hh, ?_⟩
  cases hb : h.isBoundary <;> simp [List.countP_append, hb, hc]

theorem Warming.tick {c : Nat} {l : List Happening} (hl : Warming c l) (s : State) :
    Warming (c + s.tickHappening.isBoundary.toNat) (l ++ [s.tickHappening]) :=
  hl.concat (by simp)

theorem Warming.take {c : Nat} {l : List Happening} (hl : Warming c l) (v : Byte) :
    Warming c (l ++ [.xact takeWord (some v)]) :=
  hl.concat fun _ => ⟨v, rfl⟩

/-! ### The assertions between the parts of INIT -/

/-- Before the arming write. -/
def Unarmed : Assertion := fun _ _ l => NoXact l

/-- Armed, with at least `k` boundaries since. -/
def Armed (k : Nat) : Assertion := fun _ _ l => Warming k l

/-- After the discarding read and `k` consumed boundaries; a pending `frame` stands for one more. -/
def Consumed (k : Nat) : Assertion := fun s _ l => Warming (k + s.frame.toNat) l

/-- After one read of a poll: the boundary it consumed, if any, is in `v[0]`. -/
def Polled (k : Nat) : Assertion := fun s v l => Warming (k + v[0].toNat + s.frame.toNat) l

/-- After the last write. -/
def Indicating (k : Nat) : Assertion := fun s _ l =>
  s.run = .ticking ∧ s.ind = true ∧ s.fie = false ∧
    ∃ l' post, l = l' ++ .xact 0x9003#16 none :: post ∧ Warming k l' ∧ NoXact post

theorem unarmed_stable : Unarmed.Stable :=
  fun s _ _ h => NoXact.concat h s.tickHappening_isXact

theorem armed_stable (k : Nat) : (Armed k).Stable :=
  fun s _ _ h => (Warming.tick h s).mono (Nat.le_add_right _ _)

/-- `c` boundaries and the one `frame` may stand for: a boundary that sets `frame` is recorded. -/
theorem Warming.tick_frame {c : Nat} {s : State} {l : List Happening}
    (h : Warming (c + s.frame.toNat) l) :
    Warming (c + s.tick.frame.toNat) (l ++ [s.tickHappening]) := by
  refine (h.tick s).mono ?_
  rw [State.tick_frame]
  cases s.frame <;> cases s.tickHappening.isBoundary <;> simp

theorem consumed_stable (k : Nat) : (Consumed k).Stable := fun _ _ _ h => Warming.tick_frame h

theorem polled_stable (k : Nat) : (Polled k).Stable := fun _ _ _ h => Warming.tick_frame h

theorem indicating_stable (k : Nat) : (Indicating k).Stable := by
  rintro s v l ⟨hrun, hind, hfie, l', post, rfl, hl', hpost⟩
  exact ⟨by simpa using hrun, by simpa using hind, by simpa using hfie, l',
    post ++ [s.tickHappening], by simp, hl', hpost.concat s.tickHappening_isXact⟩

/-! ### The parts of INIT, from the inside out -/

/-- One FRAMETAKE read moves `frame` into `v[0]`. -/
theorem take_polls (n k : Nat) : HostTriple n (Consumed k) (.xact takeWord) (Polled k) := by
  refine .xact (consumed_stable k) (polled_stable k) fun s v l h => ⟨_, exec_takeWord s, ?_⟩
  simpa [Polled] using Warming.take h (zextBit s.frame)

/-- A poll loop returns with one more boundary consumed (R226). -/
theorem pollFrame_consumes (n k : Nat) :
    HostTriple n (Consumed k) pollFrame (Consumed (k + 1)) := by
  refine .loopUntil (consumed_stable k) (polled_stable k) (consumed_stable (k + 1))
    (take_polls · k) (fun s v l h hv => ?_) fun s v l h hv => ?_
  · rw [gotFrame_holds] at hv
    simpa [Polled, Consumed, hv] using h
  · rw [gotFrame_holds] at hv
    simpa [Polled, Consumed, hv] using h

/-- The discarding read: whatever `frame` held, none is pending after it. -/
theorem take_discards (n : Nat) : HostTriple n (Armed 0) (.xact takeWord) (Consumed 0) := by
  refine .xact (armed_stable 0) (consumed_stable 0) fun s v l h => ⟨_, exec_takeWord s, ?_⟩
  simpa [Consumed] using Warming.take h (zextBit s.frame)

/-- FRAMESYNC(k) returns after at least `k` boundaries (R229). -/
theorem framesync_waits (n k : Nat) : HostTriple n (Armed 0) (framesync k) (Armed k) := by
  cases k with
  | zero => exact .skip (armed_stable 0)
  | succ k =>
    have hpolls : HostTriple n (Consumed 0) (.repeatN (k + 1) pollFrame) (Consumed (0 + (k + 1))) :=
      .repeatN consumed_stable pollFrame_consumes (k + 1) 0
    refine ((take_discards n).seq hpolls).weaken fun s v l h => ?_
    exact Warming.mono h (by omega)

theorem arm_arms (n : Nat) : HostTriple n Unarmed (.xact 0x9001#16) (Armed 0) := by
  refine .xact unarmed_stable (armed_stable 0) fun s v l h => ⟨_, exec_armWord s, ?_⟩
  exact ⟨l, [], rfl, h, by simp [OnlyTakes], Nat.le_refl 0⟩

/-- The last write, 0x9003, sets ARM and IND and clears FIE (R199). -/
theorem last_indicates (n k : Nat) : HostTriple n (Armed k) (.xact 0x9003#16) (Indicating k) := by
  refine .xact (armed_stable k) (indicating_stable k) fun s v l h => ⟨_, exec_lastWord s, ?_⟩
  exact ⟨rfl, rfl, rfl, l, [], rfl, h, by simp [NoXact]⟩

theorem initProc_indicates (n : Nat) (p : Params) :
    HostTriple n Unarmed (initProc p) (Indicating p.warmupFrames) :=
  (arm_arms n).seq ((framesync_waits n p.warmupFrames).seq (last_indicates n p.warmupFrames))

/-- Settles O60: the triple of INIT, from an empty record. -/
theorem initArmsWaitsAndIndicates : Obligations.InitArmsWaitsAndIndicates := by
  refine ⟨fun s v ts hr => ?_, rfl⟩
  intro p hend
  obtain ⟨hrun, hind, hfie, _, post, hlog, ⟨pre, mid, rfl, hpre, hmid, hcount⟩, hpost⟩ :=
    initProc_indicates (ts.length + 1) s.params _ rfl (by simp [System.Sat, Unarmed, NoXact]) ts
      (Nat.lt_succ_self _) hr hend
  refine ⟨hrun, hind, hfie, pre, mid, post, by simpa using hlog, ?_, hmid, hcount⟩
  exact fun h hh => (List.mem_append.1 hh).elim (hpre h) (hpost h)

end Sys2Proof.Machine

/-! ## Proofs: a transaction and a step, field by field (20_memory.md R70-R72, R77) -/

namespace Sys2Proof.Machine

/-- Nothing goes back to Idle but a reset (R190, R199). -/
theorem exec_run_idle {i : Instr} {s t : State} (h : exec i s = .next t) (ht : t.run = .idle) :
    s.run = .idle := by
  cases i with
  | ctrlWr data =>
    cases h
    change (if ctrlArm data then Run.ticking else s.run) = .idle at ht
    split at ht
    · cases ht
    · exact ht
  | _ => cases h; exact ht

/-- No transaction sets `frame`; one clears it (R222, R225). -/
theorem exec_frame {i : Instr} {s t : State} (h : exec i s = .next t) (hs : s.frame = false) :
    t.frame = false := by
  cases i with
  | frametakeRd data => cases h; rfl
  | _ => cases h; exact hs

/-- `s` with no strobe latched, no transaction issued and no inputs to come. -/
def State.alone (s : State) : State := { s with tickPending := false, port := [], inputs := [] }

/-- No transaction reads what waits at the inputs. -/
theorem exec_alone {i : Instr} {s t : State} (h : exec i s = .next t) :
    exec i s.alone = .next t.alone := by
  cases i <;> cases h <;> rfl

@[simp] theorem State.startTick_inputs (s : State) : s.startTick.inputs = s.inputs := by
  cases h : s.run <;> simp [State.startTick, h]

@[simp] theorem State.finishTick_inputs (s : State) : s.finishTick.inputs = s.inputs := by
  unfold State.finishTick
  split <;> simp

/-- A tick returns with one pending, latched before or in this very step: the pending one is cleared
and starts at once (R196). -/
theorem State.finishTick_again {s : State} {b : Bool} (h : (s.tickPending || b) = true) :
    (s.latchStrobe b).finishTick = State.startTick { s.endTick with tickPending := false } :=
  if_pos h

theorem Serves.inputs {s u : State} (h : Serves s u) : u.inputs = s.inputs.tail := by
  rw [h.frame.1]
  rfl

theorem Serves.quiet {s u : State} (h : Serves s u) : u.engine = .quiet := by rw [h.frame.1]

/-- A step takes one slot off the inputs. -/
theorem step_inputs {s t : State} (h : step s = .next t) : t.inputs = s.inputs.tail := by
  cases step_cases h with
  | reset _ ht => simp [ht]
  | drive _ e rest _ ht => simp [ht]
  | again _ _ _ ht => simp [ht]
  | start _ _ _ _ ht => simp [ht]
  | wait _ hu _ => exact hu.inputs
  | serve _ u hu w ws _ ht =>
    obtain ⟨_, _, _, _, _, _, rfl⟩ := exec_cases ht
    exact hu.inputs

/-- A run of at least one step: the first step, and the run that goes on from it. -/
theorem runSteps_succ {k : Nat} {s t : State} {es : List TxnEvent}
    (h : runSteps (k + 1) s = some (es, t)) :
    ∃ u fs, step s = .next u ∧ runSteps k u = some (fs, t) ∧ es = s.commits.toList ++ fs := by
  rw [runSteps] at h
  split at h
  · next u hu =>
    simp only [Option.map_eq_some_iff, Prod.mk.injEq, Prod.exists] at h
    obtain ⟨fs, _, hrun, rfl, rfl⟩ := h
    exact ⟨u, fs, hu, hrun, rfl⟩
  · cases h
  · cases h

/-- Two runs of events, one after the other. -/
theorem runEvents_append {es : List TxnEvent} (fs : List TxnEvent) {s t : State}
    (h : runEvents es s = .next t) : runEvents (es ++ fs) s = runEvents fs t := by
  induction es generalizing s with
  | nil => cases h; rfl
  | cons e es ih =>
    simp only [runEvents, List.cons_append] at h ⊢
    split at h
    · next u hu => simpa [hu] using ih h
    · cases h
    · cases h

theorem runEvents_singleton {e : TxnEvent} {s t : State} (h : applyEvent e s = .next t) :
    runEvents [e] s = .next t := by
  simp [runEvents, h]

end Sys2Proof.Machine

/-! ## Proofs: the pin-level machine refines the transaction level (R70, R71) -/

namespace Sys2Proof.Machine

theorem State.settle_quiet {s : State} (h : s.engine = .quiet) : s.settle = s.alone := by
  simp [State.settle, State.completeTick, h, State.alone]

/-- Inside a tick what is left of it counts as driven (R71). -/
theorem State.settle_driving {s : State} {rest : List PinEvent} (h : s.engine = .driving rest) :
    s.settle = State.alone
      (State.endTick { s with pins := s.pins.driveAll rest, trace := s.trace ++ rest }) := by
  simp [State.settle, State.completeTick, h, State.alone]

/-- With its pin sequence driven, a tick is over but for the counter. -/
theorem State.settle_ended {s : State} (h : s.engine = .driving []) :
    s.settle = s.endTick.alone := by
  simp [State.settle_driving h]

/-- Driving a pin event is no event of the transaction level. -/
theorem State.settle_drivePin {s : State} {e : PinEvent} {rest : List PinEvent} (b : Bool)
    (h : s.engine = .driving (e :: rest)) :
    ((s.arrive.latchStrobe b).drivePin e rest).settle = s.settle := by
  rw [State.settle_driving h, State.settle_driving (s := State.drivePin _ e rest) rfl]
  simp [State.drivePin, State.latchStrobe, State.arrive, State.endTick, State.countTick,
    State.alone]

/-- A tick is performed where it starts. -/
theorem State.settle_beginTick {s : State} (he : s.engine = .quiet) (hr : s.run = .ticking) :
    s.beginTick.settle = s.alone.tick := by
  cases s
  cases he
  cases hr
  rfl

/-- A state that serves the port reads as the one the step began in. -/
theorem Serves.settle {s u : State} (h : Serves s u) : u.alone = s.settle := by
  cases h with
  | between he _ hu => rw [hu, State.settle_quiet he]; rfl
  | ended he _ hu => rw [hu, State.settle_ended he]; rfl

/-- As a pending tick starts, the tick before it is already read as done. -/
theorem State.settle_finishTick {s : State} {b : Bool} (he : s.engine = .driving [])
    (hs : (s.tickPending || b) = true) :
    (s.arrive.latchStrobe b).finishTick.settle = s.settle.tick := by
  rw [State.finishTick_again (s := s.arrive) hs, State.settle_ended he]
  cases hr : s.run with
  | idle =>
    rw [State.startTick_idle (by exact hr), State.tick_idle (by exact hr)]
    rfl
  | ticking =>
    rw [State.startTick_ticking (by exact hr)]
    exact State.settle_beginTick rfl hr

@[simp] theorem State.settle_params (s : State) : s.settle.params = s.params := by
  cases h : s.engine <;> simp [State.settle, State.completeTick, h]

/-- A reset leaves the same whether it comes inside a tick or after it (R255, R292). -/
theorem State.doReset_settle (s : State) : s.settle.doReset = s.arrive.doReset.alone := by
  rw [State.doReset, State.settle_params]
  rfl

/-- One step: the event it performs, if any, leads from what the state reads as to what the next
state reads as. -/
theorem step_settle {s t : State} (h : step s = .next t) :
    runEvents s.commits.toList s.settle = .next t.settle := by
  cases step_cases h with
  | reset hr ht =>
    rw [commits_reset hr, ht, State.settle_quiet (s := s.arrive.doReset) rfl]
    exact runEvents_singleton (congrArg Host.Outcome.next s.doReset_settle)
  | drive hr e rest he ht =>
    rw [commits_drive hr he, ht, State.settle_drivePin _ he]
    rfl
  | again hr he hs ht =>
    rw [commits_again hr he hs, ht, State.settle_finishTick he hs]
    rfl
  | start hr he hs hrun ht =>
    rw [commits_start hr he hs hrun, ht, State.settle_beginTick (s := s.arrive) he hrun,
      State.settle_quiet he]
    rfl
  | wait hr hu hp =>
    rw [commits_wait hr hu hp, State.settle_quiet hu.quiet, hu.settle]
    rfl
  | serve hr u hu w ws hp ht =>
    rw [commits_serve hr hu hp, ← hu.settle]
    have hq : t.engine = .quiet := by
      obtain ⟨_, _, _, _, _, _, rfl⟩ := exec_cases ht
      exact hu.quiet
    rw [State.settle_quiet hq]
    exact runEvents_singleton (exec_alone (s := { u with port := ws }) ht)

/-- Settles O54, by induction on the number of steps. -/
theorem runsRefineTransactions : Obligations.RunsRefineTransactions := by
  intro k
  induction k with
  | zero =>
    intro s t es h
    cases h
    rfl
  | succ k ih =>
    intro s t es h
    obtain ⟨u, fs, hstep, hrun, rfl⟩ := runSteps_succ h
    rw [runEvents_append fs (step_settle hstep)]
    exact ih u t fs hrun

end Sys2Proof.Machine

/-! ## Proofs: every step keeps the invariant (10_state.md R26, R38; 42 R174, R177; 43 R196) -/

namespace Sys2Proof.Machine

theorem tickScript_ne_nil (l : Coord) (r : Coord → Row) : tickScript l r ≠ [] := by
  simp [tickScript_eq]

theorem nextTcnt_lt {n c : Byte} (hc : c.toNat < n.toNat) : (nextTcnt n c).toNat < n.toNat := by
  rw [nextTcnt_toNat hc]
  exact Nat.mod_lt _ (by omega)

theorem atMostOneLayer_of_quiet {s : State} (h : QuietInv s) : AtMostOneLayer s.pins.le := by
  rw [h.le]
  split
  · exact .inl rfl
  · exact .inr ⟨s.layer, rfl⟩

/-- What waits at the inputs is no part of the invariant. -/
theorem inv_waiting {s : State} (h : Inv s) (ws : List Word16) (ins : List Slot) :
    Inv { s with port := ws, inputs := ins } where
  tcnt := h.tcnt
  idle hr := { h.idle hr with }
  quiet he := { h.quiet he with }
  driving rest he := { h.driving rest he with }

theorem inv_arrive {s : State} (h : Inv s) : Inv s.arrive := inv_waiting h _ _

theorem inv_doReset {s : State} (h : Inv s) : Inv s.doReset :=
  inv_resetWith (Nat.one_le_of_lt h.tcnt) s.inputs

/-- With nothing left to drive, the levels are those of a whole tick: the clock low and the layer
displayed enabled alone (R170). -/
theorem ended_pins {s : State} (h : DrivingInv s []) :
    s.pins.sclk = false ∧ s.pins.le = onehot s.layer := by
  obtain ⟨p, -, -, hpins⟩ := h.pins
  rw [hpins, ← List.append_nil s.trace, h.script, driveAll_tickScript]
  exact ⟨rfl, rfl⟩

theorem ended_trace {s : State} (h : DrivingInv s []) : s.trace ≠ [] := by
  rw [← List.append_nil s.trace, h.script]
  exact tickScript_ne_nil _ _

/-- A state inside a tick meets the invariant if the counter and the tick in progress do. -/
theorem inv_of_driving {s : State} {rest : List PinEvent} (he : s.engine = .driving rest)
    (ht : s.tcnt.toNat < s.params.frameDiv.toNat) (hd : DrivingInv s rest) : Inv s where
  tcnt := ht
  idle hr := by simp [hd.running] at hr
  quiet hq := by simp [he] at hq
  driving rest' he' := by
    obtain rfl : rest = rest' := by simpa [he] using he'
    exact hd

theorem inv_drivePin {s : State} {e : PinEvent} {rest : List PinEvent} (b : Bool) (h : Inv s)
    (he : s.engine = .driving (e :: rest)) : Inv ((s.latchStrobe b).drivePin e rest) := by
  have hd := h.driving _ he
  obtain ⟨p, hclk, hle, hpins⟩ := hd.pins
  refine inv_of_driving rfl h.tcnt ⟨hd.running, ?_, p, hclk, hle, ?_⟩
  · exact (List.append_assoc s.trace [e] rest).trans hd.script
  · simpa using congrArg (Pins.drive · e) hpins

theorem inv_beginTick {s : State} (h : Inv s) (he : s.engine = .quiet) (hr : s.run = .ticking) :
    Inv s.beginTick :=
  have hq := h.quiet he
  inv_of_driving rfl h.tcnt ⟨hr, rfl, s.pins, hq.sclk, atMostOneLayer_of_quiet hq, rfl⟩

/-- The end of a tick, whether a pending strobe is then cleared or there is none (R193, R196). -/
theorem inv_endTick {s : State} (h : Inv s) (he : s.engine = .driving []) :
    Inv { s.endTick with tickPending := false } where
  tcnt := nextTcnt_lt h.tcnt
  idle hr := by
    have hd := h.driving [] he
    exact absurd (hd.running.symm.trans hr) (by simp)
  quiet _ := by
    have hd := h.driving [] he
    obtain ⟨hclk, hle⟩ := ended_pins hd
    exact ⟨rfl, hclk, by simpa [ended_trace hd] using hle⟩
  driving _ hq := nomatch hq

theorem Serves.inv {s u : State} (h : Inv s) (hu : Serves s u) : Inv u := by
  cases hu with
  | between _ _ hu => exact hu ▸ inv_arrive h
  | ended he hs hu =>
    have hp : s.tickPending = false := (Bool.or_eq_false_iff.1 hs).1
    have hend := inv_endTick (inv_arrive h) he
    rw [hu]
    simpa [State.endTick, State.countTick, State.arrive, hp] using hend

/-- A transaction between ticks leaves all that the invariant speaks of, but that it may arm the
block (R199) and clear `frame` (R222). -/
theorem inv_exec {i : Instr} {s t : State} (h : Inv s) (he : s.engine = .quiet)
    (ht : exec i s = .next t) : Inv t := by
  have hrun := exec_run_idle ht
  have hframe := exec_frame ht
  obtain ⟨buf, run, ind, fie, frame, rdata, rfl⟩ := exec_cases ht
  exact
    { tcnt := h.tcnt
      idle := fun hr =>
        have hi := h.idle (hrun hr)
        { hi with frame := hframe hi.frame }
      quiet := fun _ => { h.quiet he with }
      driving := fun rest hd => by simp [he] at hd }

theorem inv_step {s t : State} (h : Inv s) (hst : step s = .next t) : Inv t := by
  have ha := inv_arrive h
  cases step_cases hst with
  | reset _ ht => exact ht ▸ inv_doReset ha
  | drive _ e rest he ht => exact ht ▸ inv_drivePin _ ha he
  | again _ he hs ht =>
    have hrun : s.run = .ticking := (h.driving [] he).running
    rw [ht, State.finishTick_again (s := s.arrive) hs, State.startTick_ticking (by exact hrun)]
    exact inv_beginTick (inv_endTick ha he) rfl hrun
  | start _ he _ hrun ht => exact ht ▸ inv_beginTick ha he hrun
  | wait _ hu _ => exact hu.inv h
  | serve _ u hu w ws _ ht =>
    exact inv_exec (inv_waiting (hu.inv h) ws u.inputs) hu.quiet ht

/-- Settles O50, case by case of the step. -/
theorem stepKeepsInvariant : Obligations.StepKeepsInvariant := fun _ _ => inv_step

end Sys2Proof.Machine

/-! ## Proofs: the layer enabled between ticks (42_layer_multiplexer.md R174) -/

namespace Sys2Proof.Machine

/-- A tick has begun since reset: one is in progress, or the last one left its trace. -/
def State.HasTicked (s : State) : Prop := s.engine ≠ .quiet ∨ s.trace ≠ []

/-- Between ticks, the layer last displayed is enabled if a tick has begun since reset, and that
tick has then ended. -/
theorem le_of_hasTicked {s : State} (h : Inv s) (he : s.engine = .quiet) (ht : s.HasTicked) :
    s.pins.le = onehot s.layer := by
  have htrace : s.trace ≠ [] := ht.resolve_left (absurd he)
  rw [(h.quiet he).le, if_neg htrace]

theorem le_of_not_hasTicked {s : State} (h : Inv s) (he : s.engine = .quiet)
    (ht : ¬ s.HasTicked) : s.pins.le = 0#4 := by
  have htrace : s.trace = [] := not_not.1 fun hne => ht (.inr hne)
  rw [(h.quiet he).le, if_pos htrace]

theorem hasTicked_of_driving {s : State} {rest : List PinEvent} (he : s.engine = .driving rest) :
    s.HasTicked := .inl (by simp [he])

theorem Serves.hasTicked_iff {s u : State} (h : Inv s) (hu : Serves s u) :
    u.HasTicked ↔ s.HasTicked := by
  cases hu with
  | between _ _ hu => subst hu; rfl
  | ended he _ hu =>
    subst hu
    have htrace : s.trace ≠ [] := ended_trace (h.driving [] he)
    exact iff_of_true (.inr htrace) (hasTicked_of_driving he)

/-- Outside a reset, a tick has begun after the step if it had before or the step performs one. -/
theorem step_hasTicked_iff {s t : State} (h : Inv s) (hst : step s = .next t)
    (hr : s.slot.reset = false) : t.HasTicked ↔ s.HasTicked ∨ s.commits = some .tick := by
  cases step_cases hst with
  | reset hr' _ => simp [hr] at hr'
  | drive _ e rest he ht =>
    exact iff_of_true (ht ▸ hasTicked_of_driving rfl) (.inl (hasTicked_of_driving he))
  | again _ he hs ht =>
    have hrun : s.run = .ticking := (h.driving [] he).running
    rw [ht, State.finishTick_again (s := s.arrive) hs, State.startTick_ticking (by exact hrun)]
    exact iff_of_true (hasTicked_of_driving rfl) (.inr (commits_again hr he hs))
  | start _ he hs hrun ht =>
    exact iff_of_true (ht ▸ hasTicked_of_driving rfl) (.inr (commits_start hr he hs hrun))
  | wait _ hu hp => simp [commits_wait hr hu hp, hu.hasTicked_iff h]
  | serve _ u hu w ws hp ht =>
    have ht' : t.HasTicked ↔ u.HasTicked := by
      obtain ⟨_, _, _, _, _, _, rfl⟩ := exec_cases ht
      rfl
    simp [commits_serve hr hu hp, ht', hu.hasTicked_iff h]

/-- Inputs with no reset among them bring none now. -/
theorem slot_reset_of_inputs {s : State} (h : ∀ i ∈ s.inputs, i.reset = false) :
    s.slot.reset = false := by
  cases hs : s.inputs with
  | nil => simp [State.slot, hs, Slot.none]
  | cons i is => simpa [State.slot, hs] using h i (by simp [hs])

/-- The invariant, and whether a tick has begun, along a run without a reset. -/
theorem runSteps_hasTicked_iff {k : Nat} {s t : State} {es : List TxnEvent} (h : Inv s)
    (hin : ∀ i ∈ s.inputs, i.reset = false) (hrun : runSteps k s = some (es, t)) :
    Inv t ∧ (t.HasTicked ↔ s.HasTicked ∨ .tick ∈ es) := by
  induction k generalizing s es with
  | zero =>
    cases hrun
    simpa using h
  | succ k ih =>
    obtain ⟨u, fs, hst, hrest, rfl⟩ := runSteps_succ hrun
    have hin' : ∀ i ∈ u.inputs, i.reset = false := by
      rw [step_inputs hst]
      exact fun i hi => hin i (List.mem_of_mem_tail hi)
    obtain ⟨ht, hiff⟩ := ih (inv_step h hst) hin' hrest
    refine ⟨ht, ?_⟩
    rw [hiff, step_hasTicked_iff h hst (slot_reset_of_inputs hin), List.mem_append,
      Option.mem_toList, or_assoc]

/-- Settles O53: no tick has begun at reset, so one has begun at the end exactly if the run
performed one. -/
theorem oneLayerBetweenTicks : Obligations.OneLayerBetweenTicks := by
  intro p k ins es t hp hin hrun hq
  obtain ⟨ht, hiff⟩ := runSteps_hasTicked_iff (inv_resetWith hp ins) hin hrun
  have hstart : ¬ State.HasTicked { State.resetWith p with inputs := ins } := by
    simp [State.HasTicked, State.resetWith]
  rw [or_iff_right hstart] at hiff
  split
  · next hmem => exact le_of_hasTicked ht hq (hiff.2 hmem)
  · next hmem => exact le_of_not_hasTicked ht hq (mt hiff.1 hmem)

end Sys2Proof.Machine

/-! ## Proofs: the placed word, the output pins and the reset values (R21, R39-R41, R46) -/

namespace Sys2Proof.Machine

/-- A word within its width is placed as it is, and serving the port takes it off again. -/
theorem step_withFetchWord {s : State} {nbits w : Nat} (hw : w < 2 ^ nbits) :
    step (s.withFetchWord nbits w) =
      exec (decode (BitVec.ofNat 16 w)) { s with engine := .quiet } := by
  have hport : (s.withFetchWord nbits w).arrive =
      { s with engine := .quiet, port := BitVec.ofNat 16 w :: s.port } := by
    simp [State.withFetchWord, State.arrive, State.slot, Slot.none, Nat.mod_eq_of_lt hw]
  change (s.withFetchWord nbits w).arrive.engineMove false = _
  rw [hport]
  rfl

/-- Settles O26. -/
theorem placedWordIsPerformedNext : Obligations.PlacedWordIsPerformedNext := by
  intro s nbits w hn hw
  exact ⟨decode (BitVec.ofNat 16 w), if_pos ⟨hn, hw⟩, step_withFetchWord hw⟩

/-- The level of a layer-enable pin is the logical one, or its negation on a machine that is not
active high (R41). -/
theorem State.lePin_eq (s : State) (z : Coord) :
    s.lePin z = (s.pins.le.getLsbD z.toNat == s.params.leActiveHigh) := by
  cases h : s.params.leActiveHigh <;> simp [State.lePin, h]

/-- Settles O46. -/
theorem outputPinLevels : Obligations.OutputPinLevels :=
  ⟨fun s => ⟨Bool.and_eq_true_iff, rfl, s.lePin_eq⟩, rfl⟩

/-- Settles O47: each is the value `State.resetWith` gives it. -/
theorem resetValues : Obligations.ResetValues :=
  ⟨fun _ => ⟨fun _ _ => rfl, rfl, rfl, rfl, rfl, rfl, rfl, rfl, rfl, rfl, rfl, rfl, rfl, rfl⟩, rfl⟩

end Sys2Proof.Machine

/-! ## Proofs: the register space, address by address (20_memory.md R61, R64, R65) -/

namespace Sys2Proof

/-- The address a row of R94's table stands for. -/
def RegAddr.addr : RegAddr → Addr
  | .row z y => rowAddr z y
  | .ctrl => 0x10#7
  | .status => 0x11#7
  | .layer => 0x12#7
  | .tickcnt => 0x13#7
  | .frametake => 0x14#7
  | .framediv => 0x15#7
  | .rsvd16 a => a
  | .rsvd18 a => a
  | .rsvd20 a => a
  | .vox z y x => voxAddr z y x

theorem addr_decodeAddr (a : Addr) : (decodeAddr a).addr = a := by
  revert a
  decide

theorem eq_addr_of_decodeAddr {a : Addr} {r : RegAddr} (h : decodeAddr a = r) : a = r.addr := by
  rw [← h, addr_decodeAddr]

end Sys2Proof

namespace Sys2Proof.Machine

/-! ### Addresses -/

theorem rowAddr_toNat_lt (z y : Coord) : (rowAddr z y).toNat < 0x10 := by
  revert z y
  decide

theorem le_voxAddr_toNat (z y x : Coord) : 0x40 ≤ (voxAddr z y x).toNat := by
  revert z y x
  decide

/-! ### Reads -/

/-- What a read of address `a` leaves: the response and, at 0x14, `frame` cleared (R64, R222). -/
def State.afterRead (s : State) (a : Addr) : State :=
  { s with rdata := some (s.peek a), frame := if a = 0x14#7 then false else s.frame }

/-- A read at any address, whatever its DATA (R93). -/
theorem exec_read (a : Addr) (d : Byte) (s : State) :
    exec (decode (mkWord false a d)) s = .next (s.afterRead a) := by
  rw [decode_mkWord, State.afterRead, State.peek]
  cases h : decodeAddr a with
  | frametake => cases eq_addr_of_decodeAddr h; rfl
  | _ =>
    have ha : a ≠ 0x14#7 := by
      rintro rfl
      cases h
    simp only [if_neg ha]
    rfl

theorem hostRead_eq (a : Addr) (s : State) : hostRead a s = .next (s.afterRead a) :=
  exec_read a 0x00#8 s

/-- Only a FRAMETAKE read changes what it reads. -/
theorem State.peek_afterRead {s : State} {a : Addr} (ha : a ≠ 0x14#7) :
    (s.afterRead a).peek a = s.peek a := by
  rw [State.afterRead, if_neg ha]
  rfl

/-- Settles O21. -/
theorem readsShowTheRegisterSpace : Obligations.ReadsShowTheRegisterSpace :=
  fun a s => ⟨s.afterRead a, hostRead_eq a s, rfl⟩

/-! ### Writes -/

theorem State.setRow_of_row_eq {s : State} {z y : Coord} {v : Row} (h : s.row z y = v) :
    s.setRow z y v = s := by
  have hbuf : (s.setRow z y v).buf = s.buf := by
    refine State.buf_ext fun z' y' => ?_
    rw [State.row_setRow]
    split
    · next he => rw [← h, he.1, he.2]
    · rfl
  exact congrArg (fun b => { s with buf := b }) hbuf

theorem setBit_setBit (r : Row) (x : Coord) (b : Bool) :
    setBit (setBit r x b) x b = setBit r x b := by
  revert r x b
  decide

theorem State.writeCtrl_writeCtrl (s : State) (d : Byte) :
    (s.writeCtrl d).acknowledge.writeCtrl d = (s.writeCtrl d).acknowledge := by
  cases h : ctrlArm d <;> simp [State.writeCtrl, State.acknowledge, h]

theorem hostWrite_eq (a : Addr) (d : Byte) (s : State) :
    hostWrite a d s = exec (writeInstr d (decodeAddr a)) s := by
  rw [hostWrite, decode_mkWord, if_pos rfl]

theorem hostWrite_row (z y : Coord) (d : Byte) (s : State) :
    hostWrite (rowAddr z y) d s = .next (s.setRow z y (rowValue d)).acknowledge := by
  rw [hostWrite_eq, decodeAddr_rowAddr]
  rfl

theorem hostWrite_vox (z y x : Coord) (d : Byte) (s : State) :
    hostWrite (voxAddr z y x) d s =
      .next (s.setRow z y (setBit (s.row z y) x (voxValue d))).acknowledge := by
  rw [hostWrite_eq, decodeAddr_voxAddr]
  rfl

theorem hostWrite_ctrl (d : Byte) (s : State) :
    hostWrite 0x10#7 d s = .next (s.writeCtrl d).acknowledge := by
  rw [hostWrite_eq]
  rfl

/-- A write to 0x11-0x3F does nothing (R203, R205-R207, R221, R223). -/
theorem hostWrite_inert {a : Addr} (hlo : 0x11 ≤ a.toNat) (hhi : a.toNat ≤ 0x3F) (d : Byte)
    (s : State) : hostWrite a d s = .next s.acknowledge := by
  rw [hostWrite_eq]
  cases h : decodeAddr a with
  | row z y =>
    have := rowAddr_toNat_lt z y
    rw [eq_addr_of_decodeAddr h, RegAddr.addr] at hlo
    omega
  | ctrl =>
    rw [eq_addr_of_decodeAddr h] at hlo
    exact absurd hlo (by decide)
  | vox z y x =>
    have := le_voxAddr_toNat z y x
    rw [eq_addr_of_decodeAddr h, RegAddr.addr] at hhi
    omega
  | _ => rfl

/-- The four kinds of write (R65): to a row, to a voxel, to CTRL, and those that do nothing. -/
theorem addr_write_cases (a : Addr) :
    (∃ z y, a = rowAddr z y) ∨ (∃ z y x, a = voxAddr z y x) ∨ a = 0x10#7 ∨
      (0x11 ≤ a.toNat ∧ a.toNat ≤ 0x3F) := by
  have h : a = rowAddr (a.extractLsb' 2 2) (a.extractLsb' 0 2) ∨
      a = voxAddr (a.extractLsb' 4 2) (a.extractLsb' 2 2) (a.extractLsb' 0 2) ∨ a = 0x10#7 ∨
        (0x11 ≤ a.toNat ∧ a.toNat ≤ 0x3F) := by
    revert a
    decide
  exact h.imp (fun hrow => ⟨_, _, hrow⟩) (Or.imp_left fun hvox => ⟨_, _, _, hvox⟩)

/-- A write done twice leaves what it leaves once (R64). -/
theorem hostWrite_idempotent (a : Addr) (d : Byte) (s : State) :
    ∃ t, hostWrite a d s = .next t ∧ hostWrite a d t = .next t := by
  obtain ⟨z, y, rfl⟩ | ⟨z, y, x, rfl⟩ | rfl | ⟨hlo, hhi⟩ := addr_write_cases a
  · refine ⟨_, hostWrite_row z y d s, ?_⟩
    rw [hostWrite_row, State.setRow_of_row_eq (by simp)]
    rfl
  · refine ⟨_, hostWrite_vox z y x d s, ?_⟩
    rw [hostWrite_vox, State.setRow_of_row_eq (by simp [setBit_setBit])]
    rfl
  · refine ⟨_, hostWrite_ctrl d s, ?_⟩
    rw [hostWrite_ctrl, State.writeCtrl_writeCtrl]
    rfl
  · exact ⟨_, hostWrite_inert hlo hhi d s, hostWrite_inert hlo hhi d _⟩

/-- Settles O20. -/
theorem sideEffectsOfTransactions : Obligations.SideEffectsOfTransactions := by
  refine ⟨fun a s => ⟨_, _, hostRead_eq a s, hostRead_eq a _, rfl, fun ha => ?_, ?_⟩,
    hostWrite_idempotent⟩
  · exact congrArg some (State.peek_afterRead ha)
  · rintro rfl hf
    refine ⟨?_, rfl⟩
    change some (zextBit s.frame) = _
    rw [hf]
    rfl

/-! ### What a write leaves as it reads -/

/-- Writing a row changes what its own address reads, and what its voxels' addresses read where the
voxel changes; nothing else (R65, R121, R123). -/
theorem State.peek_setRow {s : State} {z y : Coord} {v : Row} {b : Addr} (hrow : b ≠ rowAddr z y)
    (hvox : ∀ x, b = voxAddr z y x → v.getLsbD x.toNat = s.voxel z y x) :
    (s.setRow z y v).peek b = s.peek b := by
  unfold State.peek
  cases h : decodeAddr b with
  | row z' y' =>
    have hne : ¬ (z = z' ∧ y = y') := by
      rintro ⟨rfl, rfl⟩
      exact hrow (eq_addr_of_decodeAddr h)
    simp [hne]
  | vox z' y' x =>
    have hbit : (s.setRow z y v).voxel z' y' x = s.voxel z' y' x := by
      rw [State.voxel, State.row_setRow]
      split
      · next he =>
        obtain ⟨rfl, rfl⟩ := he
        exact hvox x (eq_addr_of_decodeAddr h)
      · rfl
    simp [hbit]
  | _ => rfl

/-- A CTRL write shows in CTRL and STATUS alone. -/
theorem State.peek_writeCtrl {s : State} {d : Byte} {b : Addr} (hctrl : b ≠ 0x10#7)
    (hstatus : b ≠ 0x11#7) : (s.writeCtrl d).peek b = s.peek b := by
  unfold State.peek
  cases h : decodeAddr b with
  | ctrl => exact absurd (eq_addr_of_decodeAddr h) hctrl
  | status => exact absurd (eq_addr_of_decodeAddr h) hstatus
  | _ => rfl

@[simp] theorem State.peek_acknowledge (s : State) (b : Addr) :
    s.acknowledge.peek b = s.peek b := rfl

/-- Settles O22. -/
theorem writesLeaveOtherAddresses : Obligations.WritesLeaveOtherAddresses := by
  refine ⟨fun z y d s t h b hrow hvox => ?_, fun z y x d s t h b hrow hvox => ?_,
    fun d s t h b hctrl hstatus => ?_, fun a d s t hlo hhi h b => ?_⟩
  · rw [hostWrite_row] at h
    cases h
    exact State.peek_setRow hrow fun x hx => absurd hx (hvox x)
  · rw [hostWrite_vox] at h
    cases h
    refine State.peek_setRow hrow fun x' hx' => ?_
    have hne : x ≠ x' := fun he => hvox (he ▸ hx')
    rw [setBit_getLsbD, if_neg hne]
    rfl
  · rw [hostWrite_ctrl] at h
    cases h
    rw [State.peek_acknowledge, State.peek_writeCtrl hctrl hstatus]
  · rw [hostWrite_inert hlo hhi] at h
    cases h
    rfl

end Sys2Proof.Machine

/-! ## Proofs: one step, from what it begins with (20_memory.md R70-R71, 43 R196-R197, R254) -/

namespace Sys2Proof.Machine

/-- No transaction has a fault outcome (R250). -/
theorem exec_completes (i : Instr) (s : State) : ∃ t, exec i s = .next t := by
  cases i <;> exact ⟨_, rfl⟩

/-- Settles O23. -/
theorem transactionsLeaveTheEngine : Obligations.TransactionsLeaveTheEngine := by
  intro i s
  obtain ⟨t, ht⟩ := exec_completes i s
  refine ⟨t, ht, ?_⟩
  obtain ⟨_, _, _, _, _, _, rfl⟩ := exec_cases ht
  exact ⟨rfl, rfl, rfl, rfl, rfl, rfl, rfl, rfl, rfl⟩

/-! ### The cases of a step as equations -/

section
variable {s : State} (hr : s.slot.reset = false)
include hr

theorem step_of_no_reset : step s = s.arrive.engineMove s.slot.tick := by
  simp [step, State.cycle, hr]

theorem step_drive {e : PinEvent} {rest : List PinEvent} (he : s.engine = .driving (e :: rest)) :
    step s = .next ((s.arrive.latchStrobe s.slot.tick).drivePin e rest) := by
  rw [step_of_no_reset hr]
  simp [State.engineMove, he]

theorem step_again (he : s.engine = .driving []) (hs : (s.tickPending || s.slot.tick) = true) :
    step s = .next (s.arrive.latchStrobe s.slot.tick).finishTick := by
  rw [step_of_no_reset hr]
  simp [State.engineMove, State.closeTick, he, hs]

theorem step_start (he : s.engine = .quiet) (hs : s.slot.tick = true) (ht : s.run = .ticking) :
    step s = .next s.arrive.beginTick := by
  rw [step_of_no_reset hr]
  simp [State.engineMove, he, hs, State.ticking, ht]

/-- A step that serves the port performs what the port holds in the state that is to be served. -/
theorem Serves.step_eq {u : State} (hu : Serves s u) : step s = u.serve := by
  rw [step_of_no_reset hr]
  cases hu with
  | between he hs hu =>
    have hs' : (s.slot.tick && s.arrive.ticking) = false := hs
    simp [State.engineMove, he, hs', hu]
  | ended he hs hu =>
    have hend := State.finishTick_ended (s := s.arrive) hs
    simp only [State.engineMove, State.closeTick, State.arrive_engine, he, hend, hu]
    simp [hs]

end

theorem State.serve_nil {s : State} (h : s.port = []) : s.serve = .next s := by
  simp [State.serve, h]

theorem State.serve_cons {s : State} {w : Word16} {ws : List Word16} (h : s.port = w :: ws) :
    s.serve = exec (decode w) { s with port := ws } := by
  simp [State.serve, h]

/-- Settles O25. -/
theorem stepPerformsThePortWord : Obligations.StepPerformsThePortWord := by
  intro s hr he hs
  have hno : (s.slot.tick && s.ticking) = false := by
    obtain h | h := hs <;> simp [h, State.ticking]
  have hstep : step s = s.arrive.serve := Serves.step_eq hr (.between he hno rfl)
  refine ⟨fun w ws hp => ?_, fun hp => ?_⟩
  · rw [hstep, State.serve_cons hp]
    rfl
  · rw [hstep, State.serve_nil hp, State.arrive, hp, (List.append_eq_nil_iff.1 hp).1]

end Sys2Proof.Machine

/-! ## Proofs: who writes what (20_memory.md R71, R77) -/

namespace Sys2Proof.Machine

/-! ### Transactions -/

/-- A transaction is a read or a write of its address (R90, R91). -/
theorem exec_decode_read {w : Word16} (h : wordWrite w = false) (s : State) :
    exec (decode w) s = .next (s.afterRead (wordAddr w)) := by
  rw [← exec_read (wordAddr w) (wordData w), ← h, mkWord_groups]

theorem exec_decode_write {w : Word16} (h : wordWrite w = true) (s : State) :
    exec (decode w) s = hostWrite (wordAddr w) (wordData w) s := by
  rw [hostWrite, ← h, mkWord_groups]

/-- What a write leaves, by the kind of its address. -/
theorem hostWrite_cases {a : Addr} {d : Byte} {s t : State} (h : hostWrite a d s = .next t) :
    (∃ z y, a = rowAddr z y ∧ t = (s.setRow z y (rowValue d)).acknowledge) ∨
    (∃ z y x, a = voxAddr z y x ∧
      t = (s.setRow z y (setBit (s.row z y) x (voxValue d))).acknowledge) ∨
    (a = 0x10#7 ∧ t = (s.writeCtrl d).acknowledge) ∨
    (0x11 ≤ a.toNat ∧ a.toNat ≤ 0x3F ∧ t = s.acknowledge) := by
  obtain ⟨z, y, rfl⟩ | ⟨z, y, x, rfl⟩ | rfl | ⟨hlo, hhi⟩ := addr_write_cases a
  · rw [hostWrite_row] at h; cases h; exact .inl ⟨z, y, rfl, rfl⟩
  · rw [hostWrite_vox] at h; cases h; exact .inr (.inl ⟨z, y, x, rfl, rfl⟩)
  · rw [hostWrite_ctrl] at h; cases h; exact .inr (.inr (.inl ⟨rfl, rfl⟩))
  · rw [hostWrite_inert hlo hhi] at h; cases h; exact .inr (.inr (.inr ⟨hlo, hhi, rfl⟩))

theorem hostWrite_frame {a : Addr} {d : Byte} {s t : State} (h : hostWrite a d s = .next t) :
    t.frame = s.frame := by
  obtain ⟨_, _, -, rfl⟩ | ⟨_, _, _, -, rfl⟩ | ⟨-, rfl⟩ | ⟨-, -, rfl⟩ := hostWrite_cases h <;> rfl

/-- The buffer is written at row and voxel addresses alone. -/
theorem hostWrite_buf {a : Addr} {d : Byte} {s t : State} (h : hostWrite a d s = .next t)
    (hbuf : t.buf ≠ s.buf) : a.toNat < 0x10 ∨ 0x40 ≤ a.toNat := by
  obtain ⟨z, y, rfl, -⟩ | ⟨z, y, x, rfl, -⟩ | ⟨-, rfl⟩ | ⟨-, -, rfl⟩ := hostWrite_cases h
  · exact .inl (rowAddr_toNat_lt z y)
  · exact .inr (le_voxAddr_toNat z y x)
  · exact absurd rfl hbuf
  · exact absurd rfl hbuf

/-- The CTRL bits are written at 0x10 alone. -/
theorem hostWrite_ctrlBits {a : Addr} {d : Byte} {s t : State} (h : hostWrite a d s = .next t)
    (ha : a ≠ 0x10#7) : t.run = s.run ∧ t.ind = s.ind ∧ t.fie = s.fie := by
  obtain ⟨_, _, -, rfl⟩ | ⟨_, _, _, -, rfl⟩ | ⟨rfl, -⟩ | ⟨-, -, rfl⟩ := hostWrite_cases h
  · exact ⟨rfl, rfl, rfl⟩
  · exact ⟨rfl, rfl, rfl⟩
  · exact absurd rfl ha
  · exact ⟨rfl, rfl, rfl⟩

theorem exec_buf_write {w : Word16} {s t : State} (h : exec (decode w) s = .next t)
    (hbuf : t.buf ≠ s.buf) :
    wordWrite w = true ∧ ((wordAddr w).toNat < 0x10 ∨ 0x40 ≤ (wordAddr w).toNat) := by
  cases hw : wordWrite w with
  | false => rw [exec_decode_read hw] at h; cases h; exact absurd rfl hbuf
  | true => rw [exec_decode_write hw] at h; exact ⟨rfl, hostWrite_buf h hbuf⟩

theorem exec_ctrl_write {w : Word16} {s t : State} (h : exec (decode w) s = .next t)
    (hne : t.run ≠ s.run ∨ t.ind ≠ s.ind ∨ t.fie ≠ s.fie) :
    wordWrite w = true ∧ wordAddr w = 0x10#7 := by
  cases hw : wordWrite w with
  | false => rw [exec_decode_read hw] at h; cases h; simp [State.afterRead] at hne
  | true =>
    rw [exec_decode_write hw] at h
    refine ⟨rfl, by_contra fun ha => ?_⟩
    obtain ⟨hrun, hind, hfie⟩ := hostWrite_ctrlBits h ha
    simp [hrun, hind, hfie] at hne

/-- Only a FRAMETAKE read clears `frame`. -/
theorem exec_take {w : Word16} {s t : State} (h : exec (decode w) s = .next t)
    (hs : s.frame = true) (ht : t.frame = false) : (TxnEvent.host w).isTake = true := by
  cases hw : wordWrite w with
  | false =>
    rw [exec_decode_read hw] at h
    cases h
    have ha : wordAddr w = 0x14#7 := by simpa [State.afterRead, hs] using ht
    simp [TxnEvent.isTake, hw, ha]
  | true =>
    rw [exec_decode_write hw] at h
    simp [hostWrite_frame h, hs] at ht

/-! ### Steps -/

/-- What the ENGINE leaves to the host (R77): it writes none of this but `frame`, which it may set
and does not clear. -/
structure LeavesHost (s t : State) : Prop where
  buf : t.buf = s.buf
  rdata : t.rdata = s.rdata
  run : t.run = s.run
  ind : t.ind = s.ind
  fie : t.fie = s.fie
  frame : s.frame = true → t.frame = true

theorem leavesHost_drive (s : State) (b : Bool) (e : PinEvent) (rest : List PinEvent) :
    LeavesHost s ((s.arrive.latchStrobe b).drivePin e rest) := ⟨rfl, rfl, rfl, rfl, rfl, id⟩

theorem leavesHost_beginTick (s : State) : LeavesHost s s.arrive.beginTick :=
  ⟨rfl, rfl, rfl, rfl, rfl, id⟩

/-- The state after a tick that ends with one pending: the pending one starts if the block is
Ticking (R191, R196). -/
theorem finishTick_again_cases {s : State} {b : Bool} (h : (s.tickPending || b) = true) :
    (s.latchStrobe b).finishTick = { s.endTick with tickPending := false } ∨
      (s.latchStrobe b).finishTick = State.beginTick { s.endTick with tickPending := false } := by
  rw [State.finishTick_again h]
  cases hr : s.run with
  | idle => exact .inl (State.startTick_idle hr)
  | ticking => exact .inr (State.startTick_ticking hr)

theorem leavesHost_again {s : State} {b : Bool} (h : (s.tickPending || b) = true) :
    LeavesHost s (s.arrive.latchStrobe b).finishTick := by
  obtain ht | ht := finishTick_again_cases (s := s.arrive) h <;> rw [ht] <;>
    exact ⟨rfl, rfl, rfl, rfl, rfl, fun hf => by simp [hf]⟩

theorem Serves.leavesHost {s u : State} (hu : Serves s u) : LeavesHost s u := by
  obtain ⟨hu, hframe⟩ := hu.frame
  rw [hu]
  exact ⟨rfl, rfl, rfl, rfl, rfl, hframe⟩

/-- Outside a reset a step leaves to the host what is the host's, or it performs one transaction on a
state of which that holds. -/
theorem step_host {s t : State} (h : step s = .next t) (hr : s.slot.reset = false) :
    LeavesHost s t ∨ ∃ w u, s.commits = some (.host w) ∧ LeavesHost s u ∧
      exec (decode w) u = .next t := by
  cases step_cases h with
  | reset hr' _ => simp [hr] at hr'
  | drive _ e rest _ ht => exact .inl (ht ▸ leavesHost_drive s _ e rest)
  | again _ _ hs ht => exact .inl (ht ▸ leavesHost_again hs)
  | start _ _ _ _ ht => exact .inl (ht ▸ leavesHost_beginTick s)
  | wait _ hu _ => exact .inl hu.leavesHost
  | serve _ u hu w ws hp ht =>
    exact .inr ⟨w, { u with port := ws }, commits_serve hr hu hp, { hu.leavesHost with }, ht⟩

theorem Serves.params {s u : State} (hu : Serves s u) : u.params = s.params := by
  rw [hu.frame.1]
  rfl

theorem Serves.layer {s u : State} (hu : Serves s u) : u.layer = s.layer := by
  rw [hu.frame.1]
  rfl

theorem step_params {s t : State} (h : step s = .next t) : t.params = s.params := by
  cases step_cases h with
  | reset _ ht => rw [ht]; rfl
  | drive _ _ _ _ ht => rw [ht]; rfl
  | again _ _ hs ht =>
    obtain ht' | ht' := finishTick_again_cases (s := s.arrive) hs <;> rw [ht, ht'] <;> rfl
  | start _ _ _ _ ht => rw [ht]; rfl
  | wait _ hu _ => exact hu.params
  | serve _ u hu _ _ _ ht =>
    obtain ⟨_, _, _, _, _, _, rfl⟩ := exec_cases ht
    exact hu.params

/-- The layer index changes only where a tick starts. -/
theorem step_layer {s t : State} (h : step s = .next t) (hr : s.slot.reset = false)
    (hne : t.layer ≠ s.layer) : s.commits = some .tick := by
  cases step_cases h with
  | reset hr' _ => simp [hr] at hr'
  | drive _ _ _ _ ht => exact absurd (by rw [ht]; rfl) hne
  | again _ he hs _ => exact commits_again hr he hs
  | start _ he hs hrun _ => exact commits_start hr he hs hrun
  | wait _ hu _ => exact absurd hu.layer hne
  | serve _ u hu _ _ _ ht =>
    obtain ⟨_, _, _, _, _, _, rfl⟩ := exec_cases ht
    exact absurd hu.layer hne

/-- Outside a reset the counter changes, and `frame` is set, only where a tick ends. -/
theorem step_count {s t : State} (h : step s = .next t) (hr : s.slot.reset = false)
    (he : s.engine ≠ .driving []) : t.tcnt = s.tcnt ∧ (s.frame = false → t.frame = false) := by
  cases step_cases h with
  | reset hr' _ => simp [hr] at hr'
  | drive _ _ _ _ ht => exact ht ▸ ⟨rfl, id⟩
  | again _ he' _ _ => exact absurd he' he
  | start _ _ _ _ ht => exact ht ▸ ⟨rfl, id⟩
  | wait _ hu _ =>
    cases hu with
    | between _ _ hu => exact hu ▸ ⟨rfl, id⟩
    | ended he' _ _ => exact absurd he' he
  | serve _ u hu _ _ _ ht =>
    cases hu with
    | between _ _ hu =>
      subst hu
      have hframe := exec_frame ht
      obtain ⟨_, _, _, _, _, _, rfl⟩ := exec_cases ht
      exact ⟨rfl, hframe⟩
    | ended he' _ _ => exact absurd he' he

/-- Settles O44. -/
theorem singleWriters : Obligations.SingleWriters := by
  intro s t h hr
  refine ⟨step_params h, fun hne => ?_, step_layer h hr, fun hne => ?_, fun hf hf' => ?_,
    fun hf hf' => ?_, fun hne => ?_⟩
  · obtain hk | ⟨w, u, hc, hk, ht⟩ := step_host h hr
    · exact absurd hk.buf hne
    · exact ⟨w, hc, exec_buf_write ht (hk.buf ▸ hne)⟩
  · exact by_contra fun he => hne (step_count h hr he).1
  · exact by_contra fun he => by simp [(step_count h hr he).2 hf] at hf'
  · obtain hk | ⟨w, u, hc, hk, ht⟩ := step_host h hr
    · simp [hk.frame hf] at hf'
    · exact ⟨w, hc, exec_take ht (hk.frame hf) hf'⟩
  · obtain hk | ⟨w, u, hc, hk, ht⟩ := step_host h hr
    · simp [hk.run, hk.ind, hk.fie] at hne
    · exact ⟨w, hc, exec_ctrl_write ht (by rwa [hk.run, hk.ind, hk.fie])⟩

theorem busy_iff {s : State} : s.busy = true ↔ s.engine ≠ .quiet := by
  simp [State.busy]

theorem port_again {s : State} {b : Bool} (h : (s.tickPending || b) = true) :
    (s.latchStrobe b).finishTick.port = s.port := by
  obtain ht | ht := finishTick_again_cases h <;> rw [ht] <;> rfl

/-- Settles O29: such a step drives a pin event or starts the pending tick. -/
theorem hostStallsWhileBusy : Obligations.HostStallsWhileBusy := by
  intro s hbusy hr hs
  have stalls : ∀ {t : State}, t.port = s.port ++ s.slot.host.toList → LeavesHost s t →
      t.port = s.port ++ s.slot.host.toList ∧ t.rdata = s.rdata ∧ t.buf = s.buf ∧
        t.run = s.run ∧ t.ind = s.ind ∧ t.fie = s.fie ∧ (s.frame = true → t.frame = true) :=
    fun hp hk => ⟨hp, hk.rdata, hk.buf, hk.run, hk.ind, hk.fie, hk.frame⟩
  cases he : s.engine with
  | quiet => exact absurd he (busy_iff.1 hbusy)
  | driving rest =>
    cases rest with
    | nil =>
      have hs' : (s.tickPending || s.slot.tick) = true := Bool.or_eq_true_iff.2 (hs he)
      exact ⟨_, step_again hr he hs',
        stalls (port_again (s := s.arrive) hs') (leavesHost_again hs')⟩
    | cons e rest => exact ⟨_, step_drive hr he, stalls rfl (leavesHost_drive s _ e rest)⟩

end Sys2Proof.Machine

/-! ## Proofs: from a write to the lines (20_memory.md R74, 41 R150-R152, 42 R170, R176) -/

namespace Sys2Proof.Machine

/-! ### Runs of events -/

/-- A property of the state that every event of a run keeps holds at its end. -/
theorem runEvents_preserves {P : State → Prop} {es : List TxnEvent}
    (hstep : ∀ e ∈ es, ∀ s t, applyEvent e s = .next t → P s → P t) {s t : State}
    (h : runEvents es s = .next t) (hs : P s) : P t := by
  induction es generalizing s with
  | nil => cases h; exact hs
  | cons e es ih =>
    rw [runEvents] at h
    split at h
    · next u hu =>
      have hP : P u := hstep e List.mem_cons_self s u hu hs
      exact ih (fun e' he' => hstep e' (List.mem_cons_of_mem e he')) h hP
    · cases h
    · cases h

@[simp] theorem State.tick_row (s : State) (z y : Coord) : s.tick.row z y = s.row z y := by
  cases h : s.run
  · rw [State.tick_idle h]
  · rw [State.tick_ticking h]; rfl

theorem writesRow_host {w : Word16} {z y : Coord} (hw : wordWrite w = true)
    (h : (TxnEvent.host w).writesRow z y = false) :
    wordAddr w ≠ rowAddr z y ∧ ∀ x, wordAddr w ≠ voxAddr z y x := by
  have hx : ∀ x : Coord, x ∈ [(0 : Coord), 1, 2, 3] := by decide
  simp only [TxnEvent.writesRow, hw, Bool.true_and, Bool.or_eq_false_iff, beq_eq_false_iff_ne,
    List.any_eq_false, beq_iff_eq] at h
  exact ⟨h.1, fun x => h.2 x (hx x)⟩

/-- A write elsewhere leaves the row. -/
theorem hostWrite_keeps_row {a : Addr} {d : Byte} {z y : Coord} {s t : State}
    (h : hostWrite a d s = .next t) (hrow : a ≠ rowAddr z y) (hvox : ∀ x, a ≠ voxAddr z y x) :
    t.row z y = s.row z y := by
  obtain ⟨z', y', rfl, rfl⟩ | ⟨z', y', x, rfl, rfl⟩ | ⟨-, rfl⟩ | ⟨-, -, rfl⟩ := hostWrite_cases h
  · have hne : ¬ (z' = z ∧ y' = y) := by
      rintro ⟨rfl, rfl⟩
      exact hrow rfl
    simp [hne]
  · have hne : ¬ (z' = z ∧ y' = y) := by
      rintro ⟨rfl, rfl⟩
      exact hvox x rfl
    simp [hne]
  · rfl
  · rfl

theorem applyEvent_keeps_row {e : TxnEvent} {z y : Coord} {s t : State}
    (h : applyEvent e s = .next t) (hr : e ≠ .reset) (hw : e.writesRow z y = false) :
    t.row z y = s.row z y := by
  cases e with
  | reset => exact absurd rfl hr
  | tick => cases h; exact State.tick_row s z y
  | host w =>
    change exec (decode w) s = .next t at h
    cases hwr : wordWrite w with
    | false => rw [exec_decode_read hwr] at h; cases h; rfl
    | true =>
      rw [exec_decode_write hwr] at h
      obtain ⟨hrow, hvox⟩ := writesRow_host hwr hw
      exact hostWrite_keeps_row h hrow hvox

theorem runEvents_keeps_row {es : List TxnEvent} {z y : Coord} {s t : State}
    (hes : ∀ e ∈ es, e ≠ .reset ∧ e.writesRow z y = false) (h : runEvents es s = .next t) :
    t.row z y = s.row z y :=
  runEvents_preserves (P := fun u => u.row z y = s.row z y)
    (fun e he _ _ hstep hu =>
      (applyEvent_keeps_row hstep (hes e he).1 (hes e he).2).trans hu) h rfl

/-! ### The place of a row in the pin sequence -/

/-- Bit i of row y of the layer displayed goes out in the i-th DATA event of its phase, on its line
(R151, R152). -/
theorem tickScript_data (l : Coord) (r : Coord → Row) (y : Coord) {i : Nat} (hi : i < 4) :
    ∃ a b, (tickScript l r)[1 + (if y.getLsbD 0 then 12 else 0) + 3 * i]? = some (.data a b) ∧
      (if y.getLsbD 1 then a else b) = (r y).getLsbD i := by
  have hy : ∀ y : Coord, y = 0 ∨ y = 1 ∨ y = 2 ∨ y = 3 := by decide
  obtain rfl | rfl | rfl | rfl := hy y <;> interval_cases i <;> exact ⟨_, _, rfl, rfl⟩

theorem State.tick_trace {s : State} (h : s.run = .ticking) :
    s.tick.trace = tickScript (s.layer + 1) (s.row (s.layer + 1)) := by
  rw [State.tick_ticking h]
  rfl

/-- The row a run starts with goes out in the tick that displays its layer, if nothing writes it on
the way (R74). -/
theorem row_reaches_line {es : List TxnEvent} {z y : Coord} {s t : State}
    (hes : ∀ e ∈ es, e ≠ .reset ∧ e.writesRow z y = false) (h : runEvents es s = .next t)
    (hrun : t.run = .ticking) (hz : t.layer + 1 = z) {i : Nat} (hi : i < 4) :
    ∃ a b, t.tick.trace[1 + (if y.getLsbD 0 then 12 else 0) + 3 * i]? = some (.data a b) ∧
      (if y.getLsbD 1 then a else b) = (s.row z y).getLsbD i := by
  rw [State.tick_trace hrun, hz, ← runEvents_keeps_row hes h]
  exact tickScript_data z (t.row z) y hi

/-! ### The tick that displays a layer -/

theorem applyEvent_host_ticking {w : Word16} {s t : State} (h : applyEvent (.host w) s = .next t)
    (hs : s.run = .ticking) : t.run = .ticking := by
  cases ht : t.run with
  | idle => simp [exec_run_idle h ht] at hs
  | ticking => rfl

/-- Before the n-th tick of a run, counted from 0, the layer index has advanced n times. -/
theorem runEvents_before_tick {es : List TxnEvent} {n : Nat} {s : State} (hs : s.run = .ticking)
    (hes : ∀ e ∈ es, e ≠ .reset) (hn : n < tickCount es) :
    ∃ sofar rest u, es = sofar ++ .tick :: rest ∧ tickCount sofar = n ∧
      runEvents sofar s = .next u ∧ u.run = .ticking ∧ u.layer = s.layer + BitVec.ofNat 2 n := by
  induction es generalizing s n with
  | nil => simp [tickCount] at hn
  | cons e es ih =>
    have hes' : ∀ e' ∈ es, e' ≠ .reset := fun e' he' => hes e' (List.mem_cons_of_mem e he')
    cases e with
    | reset => exact absurd rfl (hes _ List.mem_cons_self)
    | host w =>
      obtain ⟨t, ht⟩ : ∃ t, applyEvent (.host w) s = .next t := exec_completes (decode w) s
      have hlayer : t.layer = s.layer := by
        obtain ⟨_, _, _, _, _, _, rfl⟩ := exec_cases (i := decode w) ht
        rfl
      obtain ⟨sofar, rest, u, rfl, hcount, hu, hrun, hul⟩ :=
        ih (n := n) (applyEvent_host_ticking ht hs) hes' (by simpa [tickCount] using hn)
      refine ⟨.host w :: sofar, rest, u, rfl, by simpa [tickCount] using hcount, ?_, hrun,
        hlayer ▸ hul⟩
      exact (runEvents_append sofar (runEvents_singleton ht)).trans hu
    | tick =>
      cases n with
      | zero => exact ⟨[], es, s, rfl, rfl, rfl, hs, by simp⟩
      | succ n =>
        have hlayer : s.tick.layer = s.layer + 1 := by rw [State.tick_ticking hs]; rfl
        obtain ⟨sofar, rest, u, rfl, hcount, hu, hrun, hul⟩ :=
          ih (n := n) (s := s.tick) (by simpa using hs) hes' (by simpa [tickCount] using hn)
        refine ⟨.tick :: sofar, rest, u, rfl, by simpa [tickCount] using hcount, hu, hrun, ?_⟩
        rw [hul, hlayer, BitVec.add_assoc, BitVec.add_comm 1, BitVec.ofNat_add]
        rfl

/-- Settles O37: the row written stays until the tick that displays its layer, and one of any four
ticks does. -/
theorem writtenRowReachesItsLine : Obligations.WrittenRowReachesItsLine := by
  refine ⟨fun z y d es s s1 s2 hw hes h hrun hz i hi => ?_,
    fun z y x d es s s1 s2 hw hes h hrun hz => ?_, fun z es s hs hes hcount => ?_⟩
  · rw [hostWrite_row] at hw
    cases hw
    obtain ⟨a, b, hdata, hbit⟩ := row_reaches_line (y := y) hes h hrun hz hi
    refine ⟨a, b, hdata, hbit.trans ?_⟩
    simp [rowValue, hi]
  · rw [hostWrite_vox] at hw
    cases hw
    obtain ⟨a, b, hdata, hbit⟩ := row_reaches_line (y := y) hes h hrun hz x.isLt
    refine ⟨a, b, hdata, hbit.trans ?_⟩
    simp [setBit_getLsbD, voxValue]
  · have hn : (z - 1 - s.layer).toNat < 4 := (z - 1 - s.layer).isLt
    obtain ⟨sofar, rest, u, rfl, hsofar, hu, hrun, hlayer⟩ :=
      runEvents_before_tick hs hes (hn.trans_le hcount)
    refine ⟨sofar, rest, u, rfl, hsofar ▸ hn, hu, hrun, ?_⟩
    rw [hlayer, BitVec.ofNat_toNat, BitVec.setWidth_eq]
    ring

end Sys2Proof.Machine

/-! ## Proofs: a tick, pin event by pin event (20_memory.md R71, 43 R193, R196-R197, R258) -/

namespace Sys2Proof.Machine

theorem run_succ {s t : State} (h : step s = .next t) (k : Nat) :
    core.run (k + 1) s = core.run k t := by
  have h' : core.step s = .next t := h
  simp only [Host.Core.run, h']

theorem run_one (s : State) : core.run 1 s = step s := by
  change core.run (0 + 1) s = core.step s
  simp only [Host.Core.run]
  cases core.step s <;> rfl

/-- What the inputs `hs` issue, in order. -/
abbrev issued (hs : List Slot) : List Word16 := hs.flatMap fun h => h.host.toList

/-- `s` after the pin events `es` have been driven and nothing of the tick but its end is left,
with the slots `hs` taken off and `ins` still to come. -/
def State.driven (s : State) (es : List PinEvent) (hs ins : List Slot) : State :=
  { s with
    pins := s.pins.driveAll es
    trace := s.trace ++ es
    engine := .driving []
    tickPending := s.tickPending || hs.any (·.tick)
    port := s.port ++ issued hs
    inputs := ins }

/-- One step drives one pin event, so a tick with the pin events `rest` left is at its end after as
many steps, if no reset comes. -/
theorem run_driving {rest : List PinEvent} {hs ins : List Slot} {s : State}
    (he : s.engine = .driving rest) (hin : s.inputs = hs ++ ins) (hlen : hs.length = rest.length)
    (hr : ∀ h ∈ hs, h.reset = false) (k : Nat) :
    core.run (rest.length + k) s = core.run k (s.driven rest hs ins) := by
  induction rest generalizing s hs with
  | nil =>
    obtain rfl : hs = [] := List.length_eq_zero_iff.1 hlen
    obtain rfl : s.inputs = ins := hin
    have hs : s.driven [] [] s.inputs = s := by simp [State.driven, ← he]
    rw [hs, List.length_nil, Nat.zero_add]
  | cons e rest ih =>
    obtain ⟨h, hs, rfl⟩ : ∃ h hs', hs = h :: hs' := List.exists_cons_of_length_eq_add_one hlen
    have hslot : s.slot = h := by simp [State.slot, hin]
    have hr0 : s.slot.reset = false := hslot ▸ hr h List.mem_cons_self
    rw [List.length_cons, Nat.add_right_comm, run_succ (step_drive hr0 he)]
    rw [ih (hs := hs) rfl (by simp [hin]) (by simpa using hlen)
      fun h' hh' => hr h' (List.mem_cons_of_mem h hh')]
    simp [State.driven, State.drivePin, State.latchStrobe, State.arrive, hslot, Bool.or_assoc]

/-- An accepted strobe and the 26 pin events of its tick, if no reset comes: the tick is at its end
(R170). -/
theorem run_tick {a : Slot} {hs ins : List Slot} {s : State} (he : s.engine = .quiet)
    (hrun : s.run = .ticking) (hin : s.inputs = a :: (hs ++ ins)) (har : a.reset = false)
    (hat : a.tick = true) (hlen : hs.length = 26) (hr : ∀ h ∈ hs, h.reset = false) (k : Nat) :
    core.run (26 + k + 1) s = core.run k
      (s.arrive.beginTick.driven (tickScript (s.layer + 1) (s.row (s.layer + 1))) hs ins) := by
  have hslot : s.slot = a := by simp [State.slot, hin]
  rw [run_succ (step_start (hslot ▸ har) he (hslot ▸ hat) hrun)]
  exact run_driving (s := s.arrive.beginTick) (State.beginTick_engine _) (by simp [hin]) hlen hr k

/-- A tick begun and driven to its end is TICK() once the counter is updated (R193). -/
theorem endTick_driven {s : State} {last : Slot} {hs ins : List Slot} (he : s.engine = .quiet)
    (hrun : s.run = .ticking) (hp : s.tickPending = false) (hno : hs.any (·.tick) = false) :
    (s.arrive.beginTick.driven (tickScript (s.layer + 1) (s.row (s.layer + 1))) hs
        (last :: ins)).arrive.endTick =
      { s.tick with
        inputs := ins
        port := s.port ++ issued (s.slot :: (hs ++ [last])) } := by
  rw [State.tick_ticking hrun]
  simp [State.driven, State.arrive, State.beginTick, State.endTick, State.countTick, State.muxStep,
    State.slot, he, hp, hno]

/-- At its end, with no strobe latched and none coming, a tick serves the port. -/
theorem step_driven {s : State} {es : List PinEvent} {last : Slot} {hs ins : List Slot}
    (hp : s.tickPending = false) (hno : hs.any (·.tick) = false) (hlr : last.reset = false)
    (hlt : last.tick = false) :
    step (s.driven es hs (last :: ins)) = (s.driven es hs (last :: ins)).arrive.endTick.serve :=
  have hslot : (s.driven es hs (last :: ins)).slot = last := rfl
  Serves.step_eq (hslot ▸ hlr) (.ended rfl (by rw [hslot]; simp [State.driven, hp, hno, hlt]) rfl)

/-- Settles O40: the strobe's step begins the tick, 26 steps drive its pin events, and the last ends
it and serves the port. -/
theorem pinLevelTickIsTick : Obligations.PinLevelTickIsTick := by
  intro s a hs rest he hrun hp hin har hat hlen hhs
  obtain ⟨now, last, rfl⟩ : ∃ now last, hs = now ++ [last] :=
    ⟨_, _, (List.dropLast_append_getLast (by rintro rfl; cases hlen)).symm⟩
  have hnow : ∀ h ∈ now, h.reset = false ∧ h.tick = false := fun h hh =>
    hhs h (List.mem_append_left _ hh)
  have hno : now.any (·.tick) = false := List.any_eq_false.2 fun h hh => by simp [(hnow h hh).2]
  obtain ⟨hlr, hlt⟩ := hhs last (by simp)
  have hslot : s.slot = a := by simp [State.slot, hin]
  have hend := step_driven (s := s.arrive.beginTick) (ins := rest) hp hno hlr hlt
    (es := tickScript (s.layer + 1) (s.row (s.layer + 1)))
  rw [endTick_driven he hrun hp hno, hslot] at hend
  have hserve := (run_tick he hrun (by simp [hin]) har hat (by simpa using hlen)
    (fun h hh => (hnow h hh).1) 1).trans ((run_one _).trans hend)
  exact ⟨_, rfl, fun hport => hserve.trans (State.serve_nil hport),
    fun w ws hport => hserve.trans (State.serve_cons hport)⟩

end Sys2Proof.Machine

/-! ## Proofs: words and instructions (30_encoding.md R90-R103) -/

namespace Sys2Proof

/-! ### A transaction: its W, its DATA and what its address names (R90, R91, R94) -/

/-- The instruction of a transaction: a write or a read of what its address names. -/
def transaction (write : Bool) (data : Byte) (r : RegAddr) : Instr :=
  if write then writeInstr data r else readInstr data r

/-- The address that a reserved row of R94's table carries is one of that row's. -/
def RegAddr.wf : RegAddr → Bool
  | .rsvd16 a => inRsvd16 a
  | .rsvd18 a => inRsvd18 a
  | .rsvd20 a => inRsvd20 a
  | _ => true

theorem decode_eq_transaction (w : Word16) :
    decode w = transaction (wordWrite w) (wordData w) (decodeAddr (wordAddr w)) := rfl

theorem exists_eq_transaction (i : Instr) : ∃ b d r, i = transaction b d r := by
  cases i with
  | rowRd z y d => exact ⟨false, d, .row z y, rfl⟩
  | rowWr z y d => exact ⟨true, d, .row z y, rfl⟩
  | ctrlRd d => exact ⟨false, d, .ctrl, rfl⟩
  | ctrlWr d => exact ⟨true, d, .ctrl, rfl⟩
  | statusRd d => exact ⟨false, d, .status, rfl⟩
  | statusWr d => exact ⟨true, d, .status, rfl⟩
  | layerRd d => exact ⟨false, d, .layer, rfl⟩
  | layerWr d => exact ⟨true, d, .layer, rfl⟩
  | tickcntRd d => exact ⟨false, d, .tickcnt, rfl⟩
  | tickcntWr d => exact ⟨true, d, .tickcnt, rfl⟩
  | frametakeRd d => exact ⟨false, d, .frametake, rfl⟩
  | frametakeWr d => exact ⟨true, d, .frametake, rfl⟩
  | framedivRd d => exact ⟨false, d, .framediv, rfl⟩
  | framedivWr d => exact ⟨true, d, .framediv, rfl⟩
  | rsvdRd16 a d => exact ⟨false, d, .rsvd16 a, rfl⟩
  | rsvdRd18 a d => exact ⟨false, d, .rsvd18 a, rfl⟩
  | rsvdRd20 a d => exact ⟨false, d, .rsvd20 a, rfl⟩
  | rsvdWr16 a d => exact ⟨true, d, .rsvd16 a, rfl⟩
  | rsvdWr18 a d => exact ⟨true, d, .rsvd18 a, rfl⟩
  | rsvdWr20 a d => exact ⟨true, d, .rsvd20 a, rfl⟩
  | voxRd z y x d => exact ⟨false, d, .vox z y x, rfl⟩
  | voxWr z y x d => exact ⟨true, d, .vox z y x, rfl⟩

theorem encode_transaction (b : Bool) (d : Byte) (r : RegAddr) :
    encode (transaction b d r) = mkWord b r.addr d := by
  cases b <;> cases r <;> rfl

theorem wf_transaction (b : Bool) (d : Byte) (r : RegAddr) :
    (transaction b d r).wf = r.wf := by
  cases b <;> cases r <;> rfl

/-! ### The address decode and back -/

theorem wf_decodeAddr (a : Addr) : (decodeAddr a).wf = true := by
  revert a
  decide

end Sys2Proof

namespace Sys2Proof.Machine

/-- The address of a row of R94's table decodes to that row. -/
theorem decodeAddr_addr {r : RegAddr} (h : r.wf = true) : decodeAddr r.addr = r := by
  cases r with
  | row z y => exact decodeAddr_rowAddr z y
  | vox z y x => exact decodeAddr_voxAddr z y x
  | rsvd16 a => exact (by decide : ∀ a, inRsvd16 a = true → decodeAddr a = .rsvd16 a) a h
  | rsvd18 a => exact (by decide : ∀ a, inRsvd18 a = true → decodeAddr a = .rsvd18 a) a h
  | rsvd20 a => exact (by decide : ∀ a, inRsvd20 a = true → decodeAddr a = .rsvd20 a) a h
  | ctrl | status | layer | tickcnt | frametake | framediv => rfl

/-- Settles O3: a word gives back its W, its DATA and what its address names. -/
theorem decodeOfEncode : Obligations.DecodeOfEncode := by
  intro i hi
  obtain ⟨b, d, r, rfl⟩ := exists_eq_transaction i
  rw [wf_transaction] at hi
  rw [encode_transaction, decode_mkWord, decodeAddr_addr hi, transaction]

/-- Settles O4: the groups of a word are those of its transaction. -/
theorem encodeOfDecode : Obligations.EncodeOfDecode := fun w => by
  rw [decode_eq_transaction, encode_transaction, wf_transaction, addr_decodeAddr, mkWord_groups]
  exact ⟨rfl, wf_decodeAddr _⟩

/-! ### The match/mask table (R98, R100) -/

theorem encodeInRow : ∀ i : Instr, Laws.EncodeInRow.Statement i
  | .rowRd z y d => Laws.EncodeInRow.rowRd z y d
  | .rowWr z y d => Laws.EncodeInRow.rowWr z y d
  | .ctrlRd d => Laws.EncodeInRow.ctrlRd d
  | .ctrlWr d => Laws.EncodeInRow.ctrlWr d
  | .statusRd d => Laws.EncodeInRow.statusRd d
  | .statusWr d => Laws.EncodeInRow.statusWr d
  | .layerRd d => Laws.EncodeInRow.layerRd d
  | .layerWr d => Laws.EncodeInRow.layerWr d
  | .tickcntRd d => Laws.EncodeInRow.tickcntRd d
  | .tickcntWr d => Laws.EncodeInRow.tickcntWr d
  | .frametakeRd d => Laws.EncodeInRow.frametakeRd d
  | .frametakeWr d => Laws.EncodeInRow.frametakeWr d
  | .framedivRd d => Laws.EncodeInRow.framedivRd d
  | .framedivWr d => Laws.EncodeInRow.framedivWr d
  | .rsvdRd16 a d => Laws.EncodeInRow.rsvdRd16 a d
  | .rsvdRd18 a d => Laws.EncodeInRow.rsvdRd18 a d
  | .rsvdRd20 a d => Laws.EncodeInRow.rsvdRd20 a d
  | .rsvdWr16 a d => Laws.EncodeInRow.rsvdWr16 a d
  | .rsvdWr18 a d => Laws.EncodeInRow.rsvdWr18 a d
  | .rsvdWr20 a d => Laws.EncodeInRow.rsvdWr20 a d
  | .voxRd z y x d => Laws.EncodeInRow.voxRd z y x d
  | .voxWr z y x d => Laws.EncodeInRow.voxWr z y x d

/-- A word is selected by the row of the instruction it decodes to. -/
theorem selects_decode (w : Word16) : (decode w).opcodeRow.selects w = true := by
  obtain ⟨hw, hwf⟩ := encodeOfDecode w
  simpa only [hw] using encodeInRow (decode w) hwf

theorem opcodeRow_mem (i : Instr) : i.opcodeRow ∈ opcodeTable := by
  cases i <;> exact List.mem_of_elem_eq_true rfl

/-- Two rows that select one word agree on the bits that both masks keep. -/
theorem pattern_and_mask_eq_of_selects {r r' : OpcodeRow} {w : Word16} (h : r.selects w = true)
    (h' : r'.selects w = true) : r.pattern &&& r'.mask = r'.pattern &&& r.mask := by
  rw [OpcodeRow.selects, beq_iff_eq] at h h'
  rw [← h, ← h', BitVec.and_assoc, BitVec.and_assoc, BitVec.and_comm r.mask]

/-- Any two different rows of the table differ in a bit that both masks keep. -/
theorem opcodeTable_disjoint : ∀ r ∈ opcodeTable, ∀ r' ∈ opcodeTable,
    r.pattern &&& r'.mask = r'.pattern &&& r.mask → r = r' := by
  decide

theorem opcodeTable_nodup : opcodeTable.Nodup := by
  decide

/-- Settles O2: the row of the decoded instruction selects the word, and no two rows can. -/
theorem everyWordSelectsOneRow : Obligations.EveryWordSelectsOneRow := by
  intro w
  have hmem := opcodeRow_mem (decode w)
  have hsel := selects_decode w
  have hfilter : ∀ r, r ∈ opcodeTable.filter (fun r => r.selects w) ↔
      r ∈ [(decode w).opcodeRow] := by
    intro r
    rw [List.mem_filter, List.mem_singleton]
    constructor
    · rintro ⟨hr, hw⟩
      exact opcodeTable_disjoint r hr _ hmem (pattern_and_mask_eq_of_selects hw hsel)
    · rintro rfl
      exact ⟨hmem, hsel⟩
  exact List.perm_singleton.1
    ((List.perm_ext_iff_of_nodup (opcodeTable_nodup.filter _) (List.nodup_singleton _)).2 hfilter)

/-! ### Operand fields and addresses (R95, R96) -/

theorem eq_encode_of_decode {w : Word16} {i : Instr} (h : decode w = i) : w = encode i :=
  h ▸ (encodeOfDecode w).1.symm

/-- A field of the ADDR group stands 8 bits higher in the word. -/
theorem extractLsb'_mkWord {n i : Nat} (h : i + n ≤ 7) (b : Bool) (a : Addr) (d : Byte) :
    (mkWord b a d).extractLsb' (8 + i) n = a.extractLsb' i n := by
  apply BitVec.eq_of_getLsbD_eq
  intro k hk
  have h8 : ¬ 8 + i + k < 8 := by omega
  have h15 : 8 + i + k < 15 := by omega
  have e : 8 + i + k - 8 = i + k := by omega
  simp only [BitVec.getLsbD_extractLsb', mkWord_getLsbD, if_neg h8, if_pos h15, e]

theorem rowAddr_fields (z y : Coord) :
    (rowAddr z y).extractLsb' 2 2 = z ∧ (rowAddr z y).extractLsb' 0 2 = y := by
  revert z y
  decide

theorem voxAddr_fields (z y x : Coord) :
    (voxAddr z y x).extractLsb' 4 2 = z ∧ (voxAddr z y x).extractLsb' 2 2 = y ∧
      (voxAddr z y x).extractLsb' 0 2 = x := by
  revert z y x
  decide

theorem rowAddr_toNat (z y : Coord) : (rowAddr z y).toNat = 4 * z.toNat + y.toNat := by
  revert z y
  decide

theorem voxAddr_toNat (z y x : Coord) :
    (voxAddr z y x).toNat = 0x40 + 16 * z.toNat + 4 * y.toNat + x.toNat := by
  revert z y x
  decide

/-- The operand fields of the word of a row, read or write. -/
theorem mkWord_rowAddr_fields (b : Bool) (z y : Coord) (d : Byte) :
    z = (mkWord b (rowAddr z y) d).extractLsb' 10 2 ∧
      y = (mkWord b (rowAddr z y) d).extractLsb' 8 2 ∧
      d = (mkWord b (rowAddr z y) d).extractLsb' 0 8 := by
  obtain ⟨hz, hy⟩ := rowAddr_fields z y
  exact ⟨hz.symm.trans (extractLsb'_mkWord (i := 2) (by decide) ..).symm,
    hy.symm.trans (extractLsb'_mkWord (i := 0) (by decide) ..).symm, (wordData_mkWord ..).symm⟩

/-- The operand fields of the word of a voxel, read or write. -/
theorem mkWord_voxAddr_fields (b : Bool) (z y x : Coord) (d : Byte) :
    z = (mkWord b (voxAddr z y x) d).extractLsb' 12 2 ∧
      y = (mkWord b (voxAddr z y x) d).extractLsb' 10 2 ∧
      x = (mkWord b (voxAddr z y x) d).extractLsb' 8 2 ∧
      d = (mkWord b (voxAddr z y x) d).extractLsb' 0 8 := by
  obtain ⟨hz, hy, hx⟩ := voxAddr_fields z y x
  exact ⟨hz.symm.trans (extractLsb'_mkWord (i := 4) (by decide) ..).symm,
    hy.symm.trans (extractLsb'_mkWord (i := 2) (by decide) ..).symm,
    hx.symm.trans (extractLsb'_mkWord (i := 0) (by decide) ..).symm, (wordData_mkWord ..).symm⟩

/-- Settles O5: the word is that of the instruction it decodes to. -/
theorem operandFieldsOfTheWord : Obligations.OperandFieldsOfTheWord := by
  refine ⟨?_, ?_, rowAddr_toNat, voxAddr_toNat⟩
  · rintro w z y d (h | h)
    · rw [eq_encode_of_decode h]; exact mkWord_rowAddr_fields false z y d
    · rw [eq_encode_of_decode h]; exact mkWord_rowAddr_fields true z y d
  · rintro w z y x d (h | h)
    · rw [eq_encode_of_decode h]; exact mkWord_voxAddr_fields false z y x d
    · rw [eq_encode_of_decode h]; exact mkWord_voxAddr_fields true z y x d

/-! ### Reads, pseudo-instructions and the sample words (R93, R98, R103) -/

/-- Settles O6: both reads leave what `exec_read` says, which does not speak of DATA. -/
theorem readsIgnoreData : Obligations.ReadsIgnoreData := fun a d d' s =>
  (exec_read a d s).trans (exec_read a d' s).symm

theorem mkWord_eq_or_data (b : Bool) (a : Addr) (d : Byte) :
    mkWord b a d = mkWord b a 0x00#8 ||| d.setWidth 16 := by
  apply BitVec.eq_of_getLsbD_eq
  intro i hi
  rw [BitVec.getLsbD_or, mkWord_getLsbD, mkWord_getLsbD, BitVec.getLsbD_setWidth]
  by_cases h8 : i < 8
  · simp [h8, hi]
  · simp [h8, BitVec.getLsbD_of_ge d i (by omega)]

theorem mkWord_voxAddr (b : Bool) (z y x : Coord) :
    mkWord b (voxAddr z y x) 0x00#8 = (if b then 0xC000#16 else 0x4000#16) |||
      (BitVec.ofNat 16 (16 * z.toNat + 4 * y.toNat + x.toNat) <<< 8) := by
  revert b z y x
  decide

theorem mkWord_rowAddr (b : Bool) (z y : Coord) :
    mkWord b (rowAddr z y) 0x00#8 = (if b then 0x8000#16 else 0x0000#16) |||
      (BitVec.ofNat 16 (4 * z.toNat + y.toNat) <<< 8) := by
  revert b z y
  decide

theorem asmWr_eq {r : RegName} {v : Nat} (hv : v < 256) :
    asmWr r v = some (mkWord true r.addr 0x00#8 ||| BitVec.ofNat 16 v) := by
  have hd : (BitVec.ofNat 8 v).setWidth 16 = BitVec.ofNat 16 v := by
    apply BitVec.eq_of_toNat_eq
    simp only [BitVec.toNat_setWidth, BitVec.toNat_ofNat]
    omega
  rw [asmWr, if_pos hv, mkWord_eq_or_data, hd]

/-- Settles O7: the word is its address, W included, with DATA put in. -/
theorem pseudoInstructionWords : Obligations.PseudoInstructionWords := by
  refine ⟨fun x y z => ⟨?setvox, ?clrvox, ?getvox⟩, ?getrow, ?setrow, ?range, rfl, rfl, rfl⟩
  case setvox =>
    rw [Pseudo.expand, asmWr_eq (by decide), RegName.addr, mkWord_voxAddr, if_pos rfl,
      BitVec.or_assoc, BitVec.or_comm _ (BitVec.ofNat 16 1), ← BitVec.or_assoc]
    rfl
  case clrvox =>
    rw [Pseudo.expand, asmWr_eq (by decide), RegName.addr, mkWord_voxAddr, if_pos rfl]
    exact congrArg some BitVec.or_zero
  case getvox => exact congrArg some (mkWord_voxAddr false z y x)
  case getrow =>
    intro z y
    exact congrArg some ((mkWord_rowAddr false z y).trans BitVec.zero_or)
  case setrow =>
    intro z y v hv
    rw [Pseudo.expand, asmWr_eq hv, RegName.addr, mkWord_rowAddr, if_pos rfl]
  case range =>
    intro z y v hv
    exact if_neg (by omega)

/-- Settles O1: each word is a closed computation of the decoder. -/
theorem sampleWordsDecode : Obligations.SampleWordsDecode := by
  unfold Obligations.SampleWordsDecode
  decide

end Sys2Proof.Machine

/-! ## Proofs: the voxel buffer (40_voxel_buffer.md R120-R125) -/

namespace Sys2Proof.Machine

/-! ### What a read of the buffer returns (R120, R122) -/

/-- A row of 4 bits fills the low half of the byte (R120). -/
theorem setWidth_row (r : Row) : r.setWidth 8 = 0#4 ++ r :=
  BitVec.setWidth_eq_append (by decide)

theorem zextBit_eq_ite (b : Bool) : zextBit b = if b then 0x01#8 else 0x00#8 := by
  cases b <;> rfl

theorem State.peek_rowAddr (s : State) (z y : Coord) :
    s.peek (rowAddr z y) = 0#4 ++ s.row z y := by
  rw [State.peek, decodeAddr_rowAddr]
  exact setWidth_row _

theorem State.peek_voxAddr (s : State) (z y x : Coord) :
    s.peek (voxAddr z y x) = if s.voxel z y x then 0x01#8 else 0x00#8 := by
  rw [State.peek, decodeAddr_voxAddr]
  exact zextBit_eq_ite _

/-- Settles O8: the response is the row, widened. -/
theorem rowReadReturnsTheRow : Obligations.RowReadReturnsTheRow := fun z y _ s =>
  congrArg (fun v => Host.Outcome.next (s.respond v)) (setWidth_row (s.row z y))

/-- Settles O10: the response is the voxel, widened. -/
theorem voxelReadReturnsTheBit : Obligations.VoxelReadReturnsTheBit := fun z y x _ s =>
  congrArg (fun v => Host.Outcome.next (s.respond v)) (zextBit_eq_ite (s.voxel z y x))

/-! ### What a write leaves in the buffer (R121, R123) -/

/-- Setting bit x of a row in place changes voxel (x, y, z) alone. -/
theorem State.voxel_setRow_setBit (s : State) (z y x z' y' x' : Coord) (b : Bool) :
    (s.setRow z y (setBit (s.row z y) x b)).voxel z' y' x' =
      if z' = z ∧ y' = y ∧ x' = x then b else s.voxel z' y' x' := by
  rw [State.voxel, State.row_setRow]
  by_cases hrow : z = z' ∧ y = y'
  · obtain ⟨rfl, rfl⟩ := hrow
    rw [if_pos ⟨rfl, rfl⟩, setBit_getLsbD]
    simp [State.voxel, eq_comm]
  · have hvox : ¬ (z' = z ∧ y' = y ∧ x' = x) := fun h => hrow ⟨h.1.symm, h.2.1.symm⟩
    rw [if_neg hrow, if_neg hvox, State.voxel]

/-- Settles O9, by what a row reads after a row is set. -/
theorem rowWriteStoresLowNibble : Obligations.RowWriteStoresLowNibble := by
  intro z y d s
  refine ⟨(s.setRow z y (rowValue d)).acknowledge, rfl, rfl, fun z' y' => ?_⟩
  simp only [State.row_acknowledge, State.row_setRow, rowValue, eq_comm (a := z),
    eq_comm (a := y)]

/-- Settles O11: the row is set to itself with one bit changed. -/
theorem voxelWriteChangesOneVoxel : Obligations.VoxelWriteChangesOneVoxel := fun z y x d s =>
  ⟨(s.setRow z y (setBit (s.row z y) x (voxValue d))).acknowledge, rfl, rfl,
    fun z' y' x' => s.voxel_setRow_setBit z y x z' y' x' (voxValue d)⟩

/-! ### Reading back what was written (R125) -/

theorem applyEvent_completes (e : TxnEvent) (s : State) : ∃ t, applyEvent e s = .next t := by
  cases e with
  | host w => exact exec_completes (decode w) s
  | tick => exact ⟨_, rfl⟩
  | reset => exact ⟨_, rfl⟩

theorem runEvents_completes (es : List TxnEvent) (s : State) :
    ∃ t, runEvents es s = .next t := by
  induction es generalizing s with
  | nil => exact ⟨s, rfl⟩
  | cons e es ih =>
    obtain ⟨u, hu⟩ := applyEvent_completes e s
    simpa [runEvents, hu] using ih u

/-- A row just written holds its value through any run without a reset or another write to it. -/
theorem runEvents_row_of_written {es : List TxnEvent} {z y : Coord} (v : Row) (s : State)
    (hes : ∀ e ∈ es, e ≠ .reset ∧ e.writesRow z y = false) :
    ∃ t, runEvents es (s.setRow z y v).acknowledge = .next t ∧ t.row z y = v := by
  obtain ⟨t, ht⟩ := runEvents_completes es (s.setRow z y v).acknowledge
  exact ⟨t, ht, (runEvents_keeps_row hes ht).trans (by simp)⟩

/-- Settles O12: the row written stays until the read, which shows it. -/
theorem writtenValueIsReadBack : Obligations.WrittenValueIsReadBack := by
  intro z y b es s hes
  refine ⟨fun x => ?vox, ?row⟩
  case vox =>
    obtain ⟨t, hrun, hrow⟩ :=
      runEvents_row_of_written (setBit (s.row z y) x (voxValue b)) s hes
    have hbit : t.voxel z y x = b.getLsbD 0 := by
      rw [State.voxel, hrow, setBit_getLsbD, if_pos rfl, voxValue]
    refine ⟨_, t, _, hostWrite_vox z y x b s, hrun, hostRead_eq _ t, ?_⟩
    rw [State.afterRead, State.peek_voxAddr, hbit]
  case row =>
    obtain ⟨t, hrun, hrow⟩ := runEvents_row_of_written (rowValue b) s hes
    refine ⟨_, t, _, hostWrite_row z y b s, hrun, hostRead_eq _ t, ?_⟩
    rw [State.afterRead, State.peek_rowAddr, hrow, rowValue]

end Sys2Proof.Machine

/-! ## Proofs: the 24 events of SHIFT_LAYER (41_serial_driver.md R150-R152) -/

namespace Sys2Proof.Machine

theorem phase_length (a b : Row) : (phase a b).length = 12 := rfl

/-- The pulse of bit i is events 3i to 3i + 2 of its phase (R152). -/
theorem phase_getElem? (a b : Row) {i : Nat} (hi : i < 4) :
    (phase a b)[3 * i]? = some (.data (a.getLsbD i) (b.getLsbD i)) ∧
      (phase a b)[3 * i + 1]? = some .clkRise ∧ (phase a b)[3 * i + 2]? = some .clkFall := by
  interval_cases i <;> exact ⟨rfl, rfl, rfl⟩

theorem shiftLayer_getElem?_phase1 (r : Coord → Row) {n : Nat} (hn : n < 12) :
    (shiftLayer r)[n]? = (phase (r 2) (r 0))[n]? :=
  List.getElem?_append_left hn

theorem shiftLayer_getElem?_phase2 (r : Coord → Row) (n : Nat) :
    (shiftLayer r)[12 + n]? = (phase (r 3) (r 1))[n]? := by
  rw [shiftLayer, List.getElem?_append_right (by simp [phase_length]), phase_length,
    Nat.add_sub_cancel_left]

/-- Settles O32: each phase is events 0 to 11 or 12 to 23, in its own order. -/
theorem shiftLayerEvents : Obligations.ShiftLayerEvents := by
  refine fun r => ⟨rfl, fun i hi => ?_⟩
  obtain ⟨data1, rise1, fall1⟩ := phase_getElem? (r 2) (r 0) hi
  obtain ⟨data2, rise2, fall2⟩ := phase_getElem? (r 3) (r 1) hi
  exact ⟨(shiftLayer_getElem?_phase1 r (by omega)).trans data1,
    (shiftLayer_getElem?_phase1 r (by omega)).trans rise1,
    (shiftLayer_getElem?_phase1 r (by omega)).trans fall1,
    (shiftLayer_getElem?_phase2 r _).trans data2,
    (shiftLayer_getElem?_phase2 r _).trans rise2,
    (shiftLayer_getElem?_phase2 r _).trans fall2⟩

end Sys2Proof.Machine

/-! ## Proofs: the external chains and the picture (41_serial_driver.md R158, R159, 42 R175) -/

namespace Sys2Proof.Machine

/-! ### Bits of a row, and where they end up in a chain (R9, R159) -/

theorem rev4_getLsbD (v : Row) {i : Nat} (hi : i < 4) :
    (rev4 v).getLsbD (3 - i) = v.getLsbD i := by
  interval_cases i <;> revert v <;> decide

theorem getLsbD_append_rev4_high (u v : Row) {i : Nat} (hi : i < 4) :
    (rev4 u ++ rev4 v).getLsbD (7 - i) = u.getLsbD i := by
  rw [BitVec.getLsbD_append, if_neg (by omega), show 7 - i - 4 = 3 - i by omega, rev4_getLsbD u hi]

theorem getLsbD_append_rev4_low (u v : Row) {i : Nat} (hi : i < 4) :
    (rev4 u ++ rev4 v).getLsbD (3 - i) = v.getLsbD i := by
  rw [BitVec.getLsbD_append, if_pos (by omega), rev4_getLsbD v hi]

/-! ### The chains over a list of events (R158) -/

theorem foldl_observeEvent_fst (p : Pins) (c : Chains) (es : List PinEvent) :
    (es.foldl observeEvent (p, c)).1 = p.driveAll es := by
  induction es generalizing p c with
  | nil => rfl
  | cons e es ih => exact ih (p.drive e) _

theorem observe_append (p : Pins) (c : Chains) (es fs : List PinEvent) :
    observe p c (es ++ fs) = observe (p.driveAll es) (observe p c es) fs := by
  rw [observe, List.foldl_append, ← foldl_observeEvent_fst p c es]
  rfl

/-- One chain over a phase: stages 0 to 3 move to stages 4 to 7, and the four bits stand in stages
3 to 0 in the order they came. -/
theorem shiftIn_four (k : BitVec 8) (v : Row) :
    (((k.extractLsb' 0 7 ++ BitVec.ofBool (v.getLsbD 0)).extractLsb' 0 7 ++
      BitVec.ofBool (v.getLsbD 1)).extractLsb' 0 7 ++
      BitVec.ofBool (v.getLsbD 2)).extractLsb' 0 7 ++ BitVec.ofBool (v.getLsbD 3) =
      k.extractLsb' 0 4 ++ rev4 v := by
  apply BitVec.eq_of_getLsbD_eq
  intro i hi
  simp only [rev4, BitVec.getLsbD_append, BitVec.getLsbD_ofBool, BitVec.getLsbD_extractLsb']
  interval_cases i <;> simp

theorem observe_phase (p : Pins) (c : Chains) (a b : Row) :
    observe p c (phase a b) =
      { a := c.a.extractLsb' 0 4 ++ rev4 a, b := c.b.extractLsb' 0 4 ++ rev4 b } :=
  congrArg₂ Chains.mk (shiftIn_four c.a a) (shiftIn_four c.b b)

/-- R159: the second phase moves what the first shifted in to the far half. -/
theorem observe_shiftLayer (p : Pins) (c : Chains) (r : Coord → Row) :
    observe p c (shiftLayer r) =
      { a := rev4 (r 2) ++ rev4 (r 3), b := rev4 (r 0) ++ rev4 (r 1) } := by
  simp only [shiftLayer, observe_append, observe_phase, BitVec.extractLsb'_append_eq_right]

/-- Settles O33: the chains hold rows 2 and 3, 0 and 1, each reversed, whatever they held. -/
theorem chainsAfterShift : Obligations.ChainsAfterShift := by
  constructor
  · refine fun r p c => ⟨observe_shiftLayer p c r, fun i hi => ?_⟩
    rw [observe_shiftLayer]
    exact ⟨getLsbD_append_rev4_high _ _ hi, getLsbD_append_rev4_low _ _ hi,
      getLsbD_append_rev4_high _ _ hi, getLsbD_append_rev4_low _ _ hi⟩
  · intro r p c h0 h1 h2 h3
    rw [observe_shiftLayer, h0, h1, h2, h3]
    decide

/-! ### The picture (R159, R170, R175) -/

/-- The LE events of a tick leave the chains alone. -/
theorem observe_tickScript (p : Pins) (c : Chains) (l : Coord) (r : Coord → Row) :
    observe p c (tickScript l r) = observe (p.drive (.le 0#4)) c (shiftLayer r) :=
  observe_append (p.drive (.le 0#4)) c (shiftLayer r) [.le (onehot l)]

/-- Each voxel of the layer shifted ends in its own stage (R159). -/
theorem observe_shiftLayer_stage (p : Pins) (c : Chains) (r : Coord → Row) (y x : Coord) :
    (observe p c (shiftLayer r)).stage y x = (r y).getLsbD x.toNat := by
  have hx : x.toNat < 4 := x.isLt
  have hy : ∀ y : Coord, y = 0 ∨ y = 1 ∨ y = 2 ∨ y = 3 := by decide
  rw [observe_shiftLayer]
  obtain rfl | rfl | rfl | rfl := hy y
  · exact getLsbD_append_rev4_high (r 0) (r 1) hx
  · exact getLsbD_append_rev4_low (r 0) (r 1) hx
  · exact getLsbD_append_rev4_high (r 2) (r 3) hx
  · exact getLsbD_append_rev4_low (r 2) (r 3) hx

theorem State.tick_stage {s : State} (h : s.run = .ticking) (c : Chains) (y x : Coord) :
    (observe s.pins c s.tick.trace).stage y x = s.voxel (s.layer + 1) y x := by
  rw [State.tick_trace h, observe_tickScript]
  exact observe_shiftLayer_stage _ c (s.row (s.layer + 1)) y x

theorem State.tick_le_getLsbD {s : State} (h : s.run = .ticking) (z : Coord) :
    s.tick.pins.le.getLsbD z.toNat = decide (z = s.layer + 1) := by
  have hle : s.tick.pins.le = onehot (s.layer + 1) := by
    rw [State.tick_ticking h]
    rfl
  rw [hle, onehot_getLsbD]
  exact decide_eq_decide.2 eq_comm

/-- Every stage of either chain is the stage of some voxel of a row on that chain's line. -/
theorem exists_stageIndex_eq : ∀ (line : Bool) (k : Fin 8), ∃ y x : Coord,
    y.getLsbD 1 = line ∧ stageIndex y x = k := by
  decide

/-- A stage at 1 that feeds the column, on either line, is the stage of a voxel that does. -/
theorem any_stage_iff (c : Chains) (line : Bool) (col : Nat) :
    ((List.finRange 8).any fun k =>
      Config.wiring line k == col && (if line then c.a else c.b).getLsbD k) = true ↔
      ∃ y x : Coord, y.getLsbD 1 = line ∧ Config.wiring line (stageIndex y x) = col ∧
        c.stage y x = true := by
  simp only [List.any_eq_true, Bool.and_eq_true, beq_iff_eq]
  constructor
  · rintro ⟨k, -, hcol, hk⟩
    obtain ⟨y, x, rfl, rfl⟩ := exists_stageIndex_eq line k
    exact ⟨y, x, rfl, hcol, hk⟩
  · rintro ⟨y, x, rfl, hcol, hk⟩
    exact ⟨stageIndex y x, List.mem_finRange _, hcol, hk⟩

/-- An LED is on when its layer is enabled and the stage of a voxel that feeds its column holds 1
(R175; log entry 2). -/
theorem ledOn_iff (p : Pins) (c : Chains) (z : Coord) (col : Nat) :
    ledOn p c z col = true ↔ p.le.getLsbD z.toNat = true ∧
      ∃ y x : Coord, Config.wiring (y.getLsbD 1) (stageIndex y x) = col ∧ c.stage y x = true := by
  have hA := any_stage_iff c true col
  have hB := any_stage_iff c false col
  simp only [if_true, Bool.false_eq_true, if_false] at hA hB
  rw [ledOn, Bool.and_eq_true, Bool.or_eq_true, hA, hB]
  refine and_congr_right fun _ => ⟨?_, ?_⟩
  · rintro (⟨y, x, hy, hcol, hk⟩ | ⟨y, x, hy, hcol, hk⟩) <;> exact ⟨y, x, hy ▸ hcol, hk⟩
  · rintro ⟨y, x, hcol, hk⟩
    cases hy : y.getLsbD 1 with
    | true => exact .inl ⟨y, x, hy, hy ▸ hcol, hk⟩
    | false => exact .inr ⟨y, x, hy, hy ▸ hcol, hk⟩

/-- Settles O38: the layer displayed alone is enabled, and each voxel of it is in its stage. -/
theorem pictureIsTheBuffer : Obligations.PictureIsTheBuffer := by
  refine fun s c h => ⟨fun z y x => ?_, fun z col => ?_⟩
  · rw [State.tick_le_getLsbD h, State.tick_stage h]
    by_cases hz : z = s.layer + 1
    · rw [hz]
    · rw [decide_eq_false hz, Bool.false_and, Bool.false_and]
  · simp only [ledOn_iff, State.tick_le_getLsbD h, State.tick_stage h, decide_eq_true_eq]
    exact and_congr_right fun hz => hz ▸ Iff.rfl

end Sys2Proof.Machine

/-! ## Proofs: the lines change only in the dark (41_serial_driver.md R153, 42 R173) -/

namespace Sys2Proof.Machine

/-! ### What may be driven at which levels -/

/-- The levels at which R153 and R173 let an event be driven: the data lines may change while the
clock is low and every layer disabled, the clock while every layer is disabled. -/
def Pins.Allows (p : Pins) : PinEvent → Prop
  | .le _ => True
  | .data _ _ => p.sclk = false ∧ p.le = 0#4
  | .clkRise => p.le = 0#4
  | .clkFall => p.le = 0#4

/-- Every event of the list is driven at levels that allow it. -/
def Pins.AllowsAll (p : Pins) : List PinEvent → Prop
  | [] => True
  | e :: es => p.Allows e ∧ (p.drive e).AllowsAll es

theorem Pins.allowsAll_append {p : Pins} {es fs : List PinEvent} :
    p.AllowsAll (es ++ fs) ↔ p.AllowsAll es ∧ (p.driveAll es).AllowsAll fs := by
  induction es generalizing p with
  | nil => exact (iff_of_eq (true_and _)).symm
  | cons e es ih => exact (and_congr_right fun _ => ih).trans and_assoc.symm

/-- An allowed event changes the lines as R153 and R173 say. -/
theorem Pins.drive_of_allows {p : Pins} {e : PinEvent} (h : p.Allows e) :
    ((p.drive e).dataA ≠ p.dataA ∨ (p.drive e).dataB ≠ p.dataB →
      p.sclk = false ∧ (p.drive e).sclk = false ∧ p.le = 0#4 ∧ (p.drive e).le = 0#4) ∧
    ((p.drive e).sclk ≠ p.sclk → p.le = 0#4 ∧ (p.drive e).le = 0#4) := by
  cases e with
  | le m => simp [Pins.drive]
  | data a b => exact ⟨fun _ => ⟨h.1, h.1, h.2, h.2⟩, fun hne => absurd rfl hne⟩
  | clkRise => exact ⟨by simp [Pins.drive], fun _ => ⟨h, h⟩⟩
  | clkFall => exact ⟨by simp [Pins.drive], fun _ => ⟨h, h⟩⟩

/-! ### The events of a tick are allowed -/

/-- The clock is low and every layer disabled. -/
def Pins.Dark (p : Pins) : Prop := p.sclk = false ∧ p.le = 0#4

/-- From dark levels every event of the list is allowed, and the levels it leaves are dark again. -/
def KeepsDark (es : List PinEvent) : Prop :=
  ∀ p : Pins, p.Dark → p.AllowsAll es ∧ (p.driveAll es).Dark

theorem keepsDark_pulse (a b : Bool) : KeepsDark (pulse a b) := fun _ h =>
  ⟨⟨h, h.2, h.2, trivial⟩, rfl, h.2⟩

theorem KeepsDark.append {es fs : List PinEvent} (hes : KeepsDark es) (hfs : KeepsDark fs) :
    KeepsDark (es ++ fs) := fun p h => by
  obtain ⟨hallow, hdark⟩ := hes p h
  obtain ⟨hallow', hdark'⟩ := hfs _ hdark
  exact ⟨Pins.allowsAll_append.2 ⟨hallow, hallow'⟩, by rwa [Pins.driveAll_append]⟩

theorem KeepsDark.flatMap {α : Type} {f : α → List PinEvent} (hf : ∀ i, KeepsDark (f i))
    (l : List α) : KeepsDark (l.flatMap f) := by
  induction l with
  | nil => exact fun _ h => ⟨trivial, h⟩
  | cons i l ih => exact (hf i).append ih

theorem keepsDark_phase (a b : Row) : KeepsDark (phase a b) :=
  .flatMap (fun _ => keepsDark_pulse _ _) _

theorem keepsDark_shiftLayer (r : Coord → Row) : KeepsDark (shiftLayer r) :=
  (keepsDark_phase _ _).append (keepsDark_phase _ _)

/-- A tick that begins with the clock low darkens the cube, shifts in the dark and then enables the
layer (R170). -/
theorem allowsAll_tickScript {p : Pins} (h : p.sclk = false) (l : Coord) (r : Coord → Row) :
    p.AllowsAll (tickScript l r) :=
  have hshift := (keepsDark_shiftLayer r (p.drive (.le 0#4)) ⟨h, rfl⟩).1
  ⟨trivial, Pins.allowsAll_append.2 ⟨hshift, trivial, trivial⟩⟩

/-- Inside a tick, the levels allow the next event. -/
theorem allows_of_drivingInv {s : State} {e : PinEvent} {rest : List PinEvent}
    (h : DrivingInv s (e :: rest)) : s.pins.Allows e := by
  obtain ⟨p, hclk, -, hpins⟩ := h.pins
  have hall := allowsAll_tickScript hclk s.layer (s.row s.layer)
  rw [← h.script, Pins.allowsAll_append, ← hpins] at hall
  exact hall.2.1

/-! ### Steps -/

/-- Outside a reset a step drives the next event of the tick in progress, or leaves the levels as
they are. -/
theorem step_pins {s t : State} (h : step s = .next t) (hr : s.slot.reset = false) :
    (∃ e rest, s.engine = .driving (e :: rest) ∧ t.pins = s.pins.drive e) ∨ t.pins = s.pins := by
  cases step_cases h with
  | reset hr' _ => simp [hr] at hr'
  | drive _ e rest he ht => exact .inl ⟨e, rest, he, by rw [ht]; rfl⟩
  | again _ _ hs ht =>
    refine .inr ?_
    obtain ht' | ht' := finishTick_again_cases (s := s.arrive) hs <;> rw [ht, ht'] <;> rfl
  | start _ _ _ _ ht => exact .inr (by rw [ht]; rfl)
  | wait _ hu _ => exact .inr (by rw [hu.frame.1]; rfl)
  | serve _ u hu _ _ _ ht =>
    obtain ⟨_, _, _, _, _, _, rfl⟩ := exec_cases ht
    exact .inr (by simpa using congrArg State.pins hu.frame.1)

/-- Settles O52: only an event of the tick in progress changes a line, and the levels allow it. -/
theorem linesChangeOnlyInTheDark : Obligations.LinesChangeOnlyInTheDark := by
  intro s t hinv hst hr
  obtain ⟨e, rest, he, ht⟩ | ht := step_pins hst hr
  · rw [ht]
    exact Pins.drive_of_allows (allows_of_drivingInv (hinv.driving _ he))
  · simp [ht]

end Sys2Proof.Machine

/-! ## Proofs: one layer at a time (42_layer_multiplexer.md R170-R173, R176, R177) -/

namespace Sys2Proof.Machine

/-! ### The LE events of a tick -/

/-- A layer shift drives no LE event (R150). -/
theorem le_notMem_shiftLayer (m : BitVec 4) (r : Coord → Row) : .le m ∉ shiftLayer r := by
  simp [shiftLayer, phase, pulse]

/-- The LE events of a tick: the one that darkens the cube and the one that enables the layer
(R170). -/
theorem le_mem_tickScript {m : BitVec 4} {l : Coord} {r : Coord → Row} :
    .le m ∈ tickScript l r ↔ m = 0#4 ∨ m = onehot l := by
  simp [tickScript, le_notMem_shiftLayer]

/-- A tick enables its own layer once, and no other. -/
theorem count_le_onehot_tickScript (z l : Coord) (r : Coord → Row) :
    (tickScript l r).count (.le (onehot z)) = if l = z then 1 else 0 := by
  have hoff : 0#4 ≠ onehot z := (onehot_ne_zero z).symm
  have hinj : onehot l = onehot z ↔ l = z := ⟨onehot_injective, congrArg onehot⟩
  simp [tickScript, List.count_cons, List.count_eq_zero_of_not_mem (le_notMem_shiftLayer _ r),
    hoff, hinj]

/-! ### The enables during a tick -/

/-- Only an LE event changes the enables (R38). -/
theorem Pins.driveAll_le {es : List PinEvent} (h : ∀ m, .le m ∉ es) (p : Pins) :
    (p.driveAll es).le = p.le := by
  induction es generalizing p with
  | nil => rfl
  | cons e es ih =>
    have hrest : ∀ m, .le m ∉ es := fun m hm => h m (List.mem_cons_of_mem e hm)
    rw [Pins.driveAll_cons, ih hrest]
    cases e with
    | le m => exact absurd List.mem_cons_self (h m)
    | data a b => rfl
    | clkRise => rfl
    | clkFall => rfl

/-- From the first event of a tick to the last but one, every layer is disabled (R171, R173). -/
theorem driveAll_take_tickScript_le (p : Pins) (l : Coord) (r : Coord → Row) {k : Nat}
    (hlo : 1 ≤ k) (hhi : k ≤ 25) : (p.driveAll ((tickScript l r).take k)).le = 0#4 := by
  obtain ⟨n, rfl⟩ := Nat.exists_eq_add_of_le' hlo
  have hn : n ≤ (shiftLayer r).length := Nat.le_of_succ_le_succ hhi
  have htake : (tickScript l r).take (n + 1) = .le 0#4 :: (shiftLayer r).take n :=
    congrArg (PinEvent.le 0#4 :: ·) (List.take_append_of_le_length hn)
  rw [htake, Pins.driveAll_cons,
    Pins.driveAll_le fun m hm => le_notMem_shiftLayer m r (List.mem_of_mem_take hm)]
  rfl

/-- Settles O34: between the two LE events of a tick lies the layer shift, which has none. -/
theorem layersAreDarkWhileShifting : Obligations.LayersAreDarkWhileShifting := by
  refine fun l r p => ⟨fun m => le_mem_tickScript.1, tickScript_length l r, rfl, rfl, rfl, rfl,
    fun k => driveAll_take_tickScript_le p l r, ?_⟩
  rw [driveAll_tickScript]

/-! ### Ticks as events -/

theorem State.tick_layer {s : State} (h : s.run = .ticking) : s.tick.layer = s.layer + 1 := by
  rw [State.tick_ticking h]
  rfl

@[simp] theorem State.tick_buf (s : State) : s.tick.buf = s.buf :=
  State.buf_ext s.tick_row

/-- The multiplexer step takes from the buffer only the rows its pin sequence is made of (R177). -/
theorem State.muxStep_of_rows {s : State} {b : Vector (Vector Row 4) 4}
    (hrows : ∀ y, ({ s with buf := b } : State).row (s.layer + 1) y = s.row (s.layer + 1) y) :
    State.muxStep { s with buf := b } = { s.muxStep with buf := b } := by
  simp only [State.muxStep, funext hrows]

theorem State.run_eq_idle_or_ticking (s : State) : s.run = .idle ∨ s.run = .ticking := by
  cases s.run <;> simp

/-- Settles O35: while Idle a tick does nothing, and while Ticking only its multiplexer step reads
the buffer. -/
theorem tickReadsOnlyItsLayer : Obligations.TickReadsOnlyItsLayer := by
  refine fun s b hrows => ⟨?_, s.tick_buf⟩
  obtain hrun | hrun := s.run_eq_idle_or_ticking
  · rw [State.tick_idle hrun]
    exact State.tick_idle hrun
  · rw [State.tick_ticking hrun, State.tick_ticking (by exact hrun), State.muxStep_of_rows hrows]
    rfl

/-- Four advances modulo 4 meet each layer once. -/
theorem four_layers_meet_once (l z : Coord) :
    (if l + 1 = z then 1 else 0) + (if l + 1 + 1 = z then 1 else 0) +
      (if l + 1 + 1 + 1 = z then 1 else 0) + (if l + 1 + 1 + 1 + 1 = z then 1 else 0) = 1 := by
  revert l z
  decide

/-- Settles O36: each of the four ticks enables its own layer once, and their layers are the four
that follow the current one. -/
theorem fourTicksShowEachLayerOnce : Obligations.FourTicksShowEachLayerOnce := by
  intro s hrun z
  have hlayer : (l : Coord) → l + 1 + 1 + 1 + 1 = l := by decide
  constructor
  · simp only [List.count_append, State.tick_trace, State.tick_layer, State.tick_run, hrun,
      count_le_onehot_tickScript]
    exact four_layers_meet_once s.layer z
  · simp only [State.tick_layer, State.tick_run, hrun, hlayer]

/-! ### Steps -/

/-- Inside a tick with an event left to drive: that event darkens the cube, being the first, or the
cube is dark (R171). -/
theorem darkens_or_dark_of_drivingInv {s : State} {e : PinEvent} {rest : List PinEvent}
    (h : DrivingInv s (e :: rest)) : s.trace = [] ∧ e = .le 0#4 ∨ s.pins.le = 0#4 := by
  obtain ⟨p, -, -, hpins⟩ := h.pins
  have hscript := h.script
  cases htrace : s.trace with
  | nil =>
    rw [htrace] at hscript
    exact .inl ⟨rfl, List.head_eq_of_cons_eq hscript⟩
  | cons e' es =>
    have hlen := congrArg List.length hscript
    rw [tickScript_length, List.length_append, List.length_cons] at hlen
    have hdriven : s.trace = (tickScript s.layer (s.row s.layer)).take s.trace.length := by
      rw [← hscript, List.take_left]
    rw [hpins, hdriven]
    exact .inr (driveAll_take_tickScript_le p _ _ (by simp [htrace]) (by omega))

theorem atMostOneLayer_of_drivingInv {s : State} {rest : List PinEvent} (h : DrivingInv s rest) :
    AtMostOneLayer s.pins.le := by
  cases rest with
  | nil => exact .inr ⟨s.layer, (ended_pins h).2⟩
  | cons e rest =>
    obtain ⟨htrace, -⟩ | hdark := darkens_or_dark_of_drivingInv h
    · obtain ⟨p, -, hle, hpins⟩ := h.pins
      rwa [hpins, htrace]
    · exact .inl hdark

theorem atMostOneLayer_of_inv {s : State} (h : Inv s) : AtMostOneLayer s.pins.le := by
  cases he : s.engine with
  | quiet => exact atMostOneLayer_of_quiet (h.quiet he)
  | driving rest => exact atMostOneLayer_of_drivingInv (h.driving rest he)

/-- A step that changes the enables begins or ends with every layer disabled: a reset darkens the
cube, and otherwise the event driven either darkens it or comes when it is dark (R171, R290). -/
theorem step_le_change {s t : State} (h : Inv s) (hst : step s = .next t)
    (hne : s.pins.le ≠ t.pins.le) : s.pins.le = 0#4 ∨ t.pins.le = 0#4 := by
  cases hr : s.slot.reset with
  | true =>
    have ht : t = s.arrive.doReset := by simpa [step, State.cycle, hr] using hst.symm
    exact .inr (by rw [ht]; rfl)
  | false =>
    obtain ⟨e, rest, he, ht⟩ | ht := step_pins hst hr
    · obtain ⟨-, rfl⟩ | hdark := darkens_or_dark_of_drivingInv (h.driving _ he)
      · exact .inr (by rw [ht]; rfl)
      · exact .inl hdark
    · exact absurd (congrArg Pins.le ht).symm hne

/-- Settles O51. -/
theorem layersNeverOverlap : Obligations.LayersNeverOverlap := fun _ _ h hst =>
  ⟨atMostOneLayer_of_inv h, atMostOneLayer_of_inv (inv_step h hst), step_le_change h hst⟩

end Sys2Proof.Machine

/-! ## Proofs: the scheduler's registers (43_refresh_scheduler.md R198-R207) -/

namespace Sys2Proof.Machine

theorem State.ticking_eq_decide (s : State) : s.ticking = decide (s.run = .ticking) := by
  obtain h | h := s.run_eq_idle_or_ticking <;> simp [State.ticking, h]

/-- The bits of CTRL as it reads (R31). -/
theorem State.ctrlByte_bits (s : State) :
    s.ctrlByte.getLsbD 0 = s.ticking ∧ s.ctrlByte.getLsbD 1 = s.ind ∧
      s.ctrlByte.getLsbD 2 = s.fie ∧ s.ctrlByte.extractLsb' 3 5 = 0#5 := by
  unfold State.ctrlByte
  cases s.fie <;> cases s.ind <;> cases s.ticking <;> exact ⟨rfl, rfl, rfl, rfl⟩

/-- Settles O13: the value is CTRL as it reads. -/
theorem ctrlReadValue : Obligations.CtrlReadValue := fun _ s =>
  ⟨s.ctrlByte, rfl, by simpa only [State.ticking_eq_decide] using s.ctrlByte_bits⟩

/-- Arming changes `run` only while Idle (R199). -/
theorem State.writeCtrl_run_eq (s : State) (d : Byte) :
    (s.writeCtrl d).run = if d.getLsbD 0 = true ∧ s.run = .idle then .ticking else s.run := by
  rw [State.writeCtrl_run, ctrlArm]
  obtain h | h := s.run_eq_idle_or_ticking <;> simp [h]

/-- Settles O14: the write is `State.writeCtrl`, and arming a Ticking block leaves it Ticking. -/
theorem ctrlWriteEffect : Obligations.CtrlWriteEffect := fun d s =>
  ⟨(s.writeCtrl d).acknowledge, rfl,
    congrArg (fun r => { (s.writeCtrl d).acknowledge with run := r }) (s.writeCtrl_run_eq d), rfl⟩

/-- The layer index fills the low two bits of the byte (R200). -/
theorem setWidth_coord (l : Coord) : l.setWidth 8 = 0#6 ++ l :=
  BitVec.setWidth_eq_append (by decide)

/-- Settles O17: each read responds with its register, and the standard build has FRAME_DIV 0x18. -/
theorem readOnlyRegistersRead : Obligations.ReadOnlyRegistersRead :=
  ⟨fun _ s => ⟨congrArg (fun v => Host.Outcome.next (s.respond v)) (setWidth_coord s.layer), rfl,
    rfl⟩, fun _ => rfl⟩

/-- Settles O18: each of these writes acknowledges and does nothing else. -/
theorem writesToReadOnlyDoNothing : Obligations.WritesToReadOnlyDoNothing :=
  fun _ _ => ⟨rfl, rfl, rfl, rfl, rfl⟩

/-- Settles O19: a reserved read responds with 0x00, a reserved write acknowledges. -/
theorem reservedAddressesAreInert : Obligations.ReservedAddressesAreInert :=
  fun _ _ _ => ⟨rfl, rfl, rfl, rfl, rfl, rfl⟩

end Sys2Proof.Machine

/-! ## Proofs: strobes and the tick in progress (43_refresh_scheduler.md R191, R196-R197, R258) -/

namespace Sys2Proof.Machine

/-- Settles O27: the step serves an empty port. -/
theorem idleStrobeIsIgnored : Obligations.IdleStrobeIsIgnored := by
  refine fun s hidle => ⟨State.tick_idle hidle, fun hr he hp hh => ?_⟩
  obtain ⟨-, hwait⟩ := stepPerformsThePortWord s hr he (.inr hidle)
  rw [hwait (by simp [hp, hh])]

/-- Settles O30, by the three cases of a step inside a tick. -/
theorem strobeDuringTickIsLatched : Obligations.StrobeDuringTickIsLatched := by
  refine fun s hr => ⟨fun e rest he => ?drive, fun he hrun hs => ?again, fun he hp ht => ?ended⟩
  case drive => exact ⟨_, step_drive hr he, rfl, rfl, rfl, rfl, rfl, rfl, rfl⟩
  case again =>
    have hs' : (s.tickPending || s.slot.tick) = true := Bool.or_eq_true_iff.2 hs
    refine ⟨_, step_again hr he hs', ?_⟩
    rw [State.finishTick_pending (s := s.arrive.latchStrobe s.slot.tick) hs' hrun]
    exact ⟨rfl, rfl, rfl, rfl, rfl, rfl⟩
  case ended =>
    have hu : Serves s s.arrive.endTick := .ended he (Bool.or_eq_false_iff.2 ⟨hp, ht⟩) rfl
    have hserve : step s = s.arrive.endTick.serve := hu.step_eq hr
    exact ⟨s.arrive.endTick, rfl, fun hport => hserve.trans (State.serve_nil hport),
      fun w ws hport => hserve.trans (State.serve_cons hport)⟩

end Sys2Proof.Machine

/-! ## Proofs: how long a held transaction waits (43_refresh_scheduler.md R196-R197, R258, R301) -/

namespace Sys2Proof.Machine

/-- A list that is not empty is its last element after the others. -/
theorem exists_concat_of_length {α : Type} {l : List α} {n : Nat} (h : l.length = n + 1) :
    ∃ init last, l = init ++ [last] ∧ init.length = n :=
  have hne : l ≠ [] := by
    rintro rfl
    cases h
  ⟨l.dropLast, l.getLast hne, (List.dropLast_append_getLast hne).symm, by simp [h]⟩

/-- A tick with the pin events `rest` left and no strobe latched or coming ends after as many steps
and one more, and that one serves the port. -/
theorem run_to_end {rest : List PinEvent} {hs ins : List Slot} {s : State}
    (he : s.engine = .driving rest) (hin : s.inputs = hs ++ ins)
    (hlen : hs.length = rest.length + 1) (hp : s.tickPending = false)
    (hhs : ∀ h ∈ hs, h.reset = false ∧ h.tick = false) : ∃ u : State,
      u.engine = .quiet ∧ u.port = s.port ++ issued hs ∧ u.inputs = ins ∧ u.buf = s.buf ∧
      u.rdata = s.rdata ∧ core.run (rest.length + 1) s = u.serve := by
  obtain ⟨now, last, rfl, hnow⟩ := exists_concat_of_length hlen
  have hearly : ∀ h ∈ now, h.reset = false ∧ h.tick = false := fun h hh =>
    hhs h (List.mem_append_left _ hh)
  have hno : now.any (·.tick) = false := List.any_eq_false.2 fun h hh => by simp [(hearly h hh).2]
  obtain ⟨hlr, hlt⟩ := hhs last (by simp)
  have hdrive := run_driving (ins := last :: ins) he (by simp [hin]) hnow
    (fun h hh => (hearly h hh).1) 1
  refine ⟨(s.driven rest now (last :: ins)).arrive.endTick, rfl, ?_, rfl, rfl, rfl,
    hdrive.trans ((run_one _).trans (step_driven hp hno hlr hlt))⟩
  simp [State.driven, State.slot]

/-- At its end, with a strobe latched or coming, a tick is followed by the next one at once. -/
theorem step_driven_again {s : State} {es : List PinEvent} {last : Slot} {hs ins : List Slot}
    (hrun : s.run = .ticking) (hp : (s.tickPending || hs.any (·.tick) || last.tick) = true)
    (hlr : last.reset = false) :
    step (s.driven es hs (last :: ins)) = .next (State.beginTick
      { (s.driven es hs (last :: ins)).arrive.endTick with tickPending := false }) := by
  rw [step_again (s := s.driven es hs (last :: ins)) hlr rfl hp]
  exact congrArg Host.Outcome.next (State.finishTick_pending hp hrun)

/-- A tick with the pin events `rest` left and a strobe latched or coming: after as many steps and
one more the pending tick has begun, with no strobe latched. -/
theorem run_to_pending {rest : List PinEvent} {hs ins : List Slot} {s : State}
    (he : s.engine = .driving rest) (hrun : s.run = .ticking) (hin : s.inputs = hs ++ ins)
    (hlen : hs.length = rest.length + 1) (hr : ∀ h ∈ hs, h.reset = false)
    (hp : s.tickPending = true ∨ ∃ h ∈ hs, h.tick = true) : ∃ (u : State) (script : List PinEvent),
      u.engine = .driving script ∧ script.length = 26 ∧ u.tickPending = false ∧
      u.port = s.port ++ issued hs ∧ u.inputs = ins ∧ u.buf = s.buf ∧ u.rdata = s.rdata ∧
      ∀ k, core.run (rest.length + 1 + k) s = core.run k u := by
  obtain ⟨now, last, rfl, hnow⟩ := exists_concat_of_length hlen
  have hdrive := run_driving (ins := last :: ins) he (by simp [hin]) hnow
    fun h hh => hr h (List.mem_append_left _ hh)
  have hstrobe : (s.tickPending || now.any (·.tick) || last.tick) = true := by
    obtain hp | ⟨h, hh, ht⟩ := hp
    · simp [hp]
    · obtain hh | hh := List.mem_append.1 hh
      · simp [List.any_eq_true.2 ⟨h, hh, ht⟩]
      · obtain rfl := List.mem_singleton.1 hh
        simp [ht]
  have hend := step_driven_again (es := rest) (ins := ins) hrun hstrobe (hr last (by simp))
  refine ⟨State.beginTick
      { (s.driven rest now (last :: ins)).arrive.endTick with tickPending := false },
    tickScript (s.layer + 1) (s.row (s.layer + 1)), rfl, tickScript_length _ _, rfl, ?_, rfl, rfl,
    rfl, fun k => ?_⟩
  · simp [State.driven, State.slot]
  · rw [Nat.add_assoc, hdrive, Nat.add_comm 1 k, run_succ hend]

/-- Settles O31: the tick in progress ends and serves the port, or the pending tick begins, which
then ends and does. -/
theorem stallIsBounded : Obligations.StallIsBounded := by
  intro s rest now pending later he hrun hlen hr
  refine ⟨fun hin hp hno => ?_, fun hin hp hplen hpending => ?_⟩
  · obtain ⟨u, hq, hport, hins, hbuf, hrdata, hserve⟩ :=
      run_to_end he hin hlen hp fun i hi => ⟨hr i hi, hno i hi⟩
    exact ⟨u, hq, hport, hins, hbuf, hrdata, fun hnil => hserve.trans (State.serve_nil hnil),
      fun w ws hcons => hserve.trans (State.serve_cons hcons)⟩
  · obtain ⟨t, script, hte, htlen, htp, htport, htins, htbuf, htrdata, htrun⟩ :=
      run_to_pending he hrun (by simpa using hin) hlen hr hp
    obtain ⟨u, hq, hport, hins, hbuf, hrdata, hserve⟩ :=
      run_to_end hte htins (by rw [hplen, htlen]) htp hpending
    have hwhole : core.run (rest.length + 28) s = u.serve := by
      rw [show rest.length + 28 = rest.length + 1 + (script.length + 1) by omega, htrun, hserve]
    exact ⟨u, hq, by simp [hport, htport], hins, hbuf.trans htbuf, hrdata.trans htrdata,
      fun hnil => hwhole.trans (State.serve_nil hnil),
      fun w ws hcons => hwhole.trans (State.serve_cons hcons)⟩

end Sys2Proof.Machine

/-! ## Proofs: what a tick does, and ticks counted (43_refresh_scheduler.md R193-R195, R209) -/

namespace Sys2Proof.Machine

/-! ### One tick (R193) -/

@[simp] theorem State.tick_params (s : State) : s.tick.params = s.params := by
  cases h : s.run <;> simp [State.tick, h]

theorem State.tick_tcnt {s : State} (h : s.run = .ticking) :
    s.tick.tcnt = nextTcnt s.params.frameDiv s.tcnt := by
  rw [State.tick_ticking h]
  rfl

theorem State.tick_frame_ticking {s : State} (h : s.run = .ticking) :
    s.tick.frame = (s.frame || isBoundary s.params.frameDiv s.tcnt) := by
  rw [State.tick_ticking h]
  rfl

/-- The levels a tick leaves are those of its last bits and its layer (R174). -/
theorem State.tick_pins {s : State} (h : s.run = .ticking) :
    s.tick.pins =
      { dataA := (s.row (s.layer + 1) 3).getLsbD 3, dataB := (s.row (s.layer + 1) 1).getLsbD 3,
        sclk := false, le := onehot (s.layer + 1) } := by
  rw [State.tick_ticking h]
  exact driveAll_tickScript _ _ _

theorem isBoundary_eq_decide (n c : Byte) : isBoundary n c = decide (c.toNat + 1 = n.toNat) :=
  beq_eq_decide _ _

theorem nextTcnt_toNat_eq_ite {n c : Byte} (hc : c.toNat < n.toNat) :
    (nextTcnt n c).toNat = if c.toNat + 1 = n.toNat then 0 else c.toNat + 1 := by
  rw [nextTcnt_toNat hc]
  split
  · next h => rw [h, Nat.mod_self]
  · next h => exact Nat.mod_eq_of_lt (by omega)

/-- Settles O39. -/
theorem tickEffect : Obligations.TickEffect := by
  refine ⟨fun s hrun hc => ⟨s.tick, rfl, ?layer, ?trace, ?pins, ?tcnt, ?frame, ?irq, ?others⟩,
    fun s => State.tick_idle, rfl⟩
  case layer => rw [State.tick_layer hrun]; exact BitVec.toNat_add _ _
  case trace => rw [State.tick_trace hrun, State.tick_layer hrun]
  case pins => rw [State.tick_pins hrun, State.tick_layer hrun]
  case tcnt => rw [State.tick_tcnt hrun, nextTcnt_toNat_eq_ite hc]
  case frame => rw [State.tick_frame_ticking hrun, isBoundary_eq_decide]
  case irq => rw [State.irq, State.tick_fie]
  case others => rw [State.tick_ticking hrun]; rfl

/-! ### Runs of events from a Ticking block -/

theorem runEvents_cons {e : TxnEvent} {es : List TxnEvent} {s t : State}
    (h : runEvents (e :: es) s = .next t) :
    ∃ u, applyEvent e s = .next u ∧ runEvents es u = .next t := by
  obtain ⟨u, hu⟩ := applyEvent_completes e s
  exact ⟨u, hu, by simpa [runEvents, hu] using h⟩

/-- `t` is as far on from the Ticking block `s` as `n` ticks take it. -/
structure Advances (s : State) (n : Nat) (t : State) : Prop where
  run : t.run = .ticking
  params : t.params = s.params
  layer : t.layer.toNat = (s.layer.toNat + n) % 4
  tcnt : t.tcnt.toNat = (s.tcnt.toNat + n) % s.params.frameDiv.toNat

theorem Advances.tcnt_lt {s t : State} {n : Nat} (h : Advances s n t)
    (hc : s.tcnt.toNat < s.params.frameDiv.toNat) : t.tcnt.toNat < t.params.frameDiv.toNat := by
  rw [h.tcnt, h.params]
  exact Nat.mod_lt _ (by omega)

theorem Advances.refl {s : State} (hrun : s.run = .ticking)
    (hc : s.tcnt.toNat < s.params.frameDiv.toNat) : Advances s 0 s :=
  ⟨hrun, rfl, (Nat.mod_eq_of_lt s.layer.isLt).symm, (Nat.mod_eq_of_lt hc).symm⟩

theorem Advances.trans {s t u : State} {m n : Nat} (hst : Advances s m t) (htu : Advances t n u) :
    Advances s (m + n) u where
  run := htu.run
  params := htu.params.trans hst.params
  layer := by rw [htu.layer, hst.layer, Nat.mod_add_mod, Nat.add_assoc]
  tcnt := by rw [htu.tcnt, hst.params, hst.tcnt, Nat.mod_add_mod, Nat.add_assoc]

theorem advances_tick {s : State} (hrun : s.run = .ticking)
    (hc : s.tcnt.toNat < s.params.frameDiv.toNat) : Advances s 1 s.tick where
  run := s.tick_run.trans hrun
  params := s.tick_params
  layer := by rw [State.tick_layer hrun]; exact BitVec.toNat_add _ _
  tcnt := by rw [State.tick_tcnt hrun, nextTcnt_toNat hc]

theorem advances_host {w : Word16} {s t : State} (hrun : s.run = .ticking)
    (hc : s.tcnt.toNat < s.params.frameDiv.toNat) (h : applyEvent (.host w) s = .next t) :
    Advances s 0 t := by
  have hticking := applyEvent_host_ticking h hrun
  obtain ⟨_, _, _, _, _, _, rfl⟩ := exec_cases (i := decode w) h
  exact { Advances.refl hrun hc with run := hticking }

@[simp] theorem tickCount_nil : tickCount [] = 0 := rfl

@[simp] theorem tickCount_tick (es : List TxnEvent) :
    tickCount (.tick :: es) = 1 + tickCount es := by
  simp [tickCount, Nat.add_comm]

@[simp] theorem tickCount_host (w : Word16) (es : List TxnEvent) :
    tickCount (.host w :: es) = tickCount es := by
  simp [tickCount]

theorem tickCount_append (es fs : List TxnEvent) :
    tickCount (es ++ fs) = tickCount es + tickCount fs :=
  List.countP_append

theorem runEvents_advances {es : List TxnEvent} {s t : State} (hrun : s.run = .ticking)
    (hc : s.tcnt.toNat < s.params.frameDiv.toNat) (hes : ∀ e ∈ es, e ≠ .reset)
    (h : runEvents es s = .next t) : Advances s (tickCount es) t := by
  induction es generalizing s with
  | nil =>
    cases h
    exact .refl hrun hc
  | cons e es ih =>
    obtain ⟨u, hu, hrest⟩ := runEvents_cons h
    have hes' : ∀ e' ∈ es, e' ≠ .reset := fun e' he' => hes e' (List.mem_cons_of_mem e he')
    have goOn {n : Nat} (hsu : Advances s n u) : Advances s (n + tickCount es) t :=
      hsu.trans (ih hsu.run (hsu.tcnt_lt hc) hes' hrest)
    cases e with
    | reset => exact absurd rfl (hes _ List.mem_cons_self)
    | host w => simpa using goOn (advances_host hrun hc hu)
    | tick =>
      cases hu
      simpa using goOn (advances_tick hrun hc)

/-! ### Boundaries merge (R195) -/

theorem applyEvent_host_frame {w : Word16} {s t : State} (h : applyEvent (.host w) s = .next t)
    (hw : (TxnEvent.host w).isTake = false) : t.frame = s.frame := by
  cases hs : s.frame with
  | false => exact exec_frame (i := decode w) h hs
  | true => exact by_contra fun ht => by simp [exec_take h hs (by simpa using ht)] at hw

/-- Without a FRAMETAKE read, `frame` says whether it was set or the counter has run over. -/
theorem runEvents_frame {es : List TxnEvent} {s t : State} (hrun : s.run = .ticking)
    (hc : s.tcnt.toNat < s.params.frameDiv.toNat)
    (hes : ∀ e ∈ es, e ≠ .reset ∧ e.isTake = false) (h : runEvents es s = .next t) :
    t.frame = (s.frame || decide (s.params.frameDiv.toNat ≤ s.tcnt.toNat + tickCount es)) := by
  induction es generalizing s with
  | nil =>
    cases h
    simp [hc]
  | cons e es ih =>
    obtain ⟨u, hu, hrest⟩ := runEvents_cons h
    have hes' : ∀ e' ∈ es, e' ≠ .reset ∧ e'.isTake = false := fun e' he' =>
      hes e' (List.mem_cons_of_mem e he')
    obtain ⟨hreset, htake⟩ := hes e List.mem_cons_self
    cases e with
    | reset => exact absurd rfl hreset
    | host w =>
      have hsu := advances_host hrun hc hu
      have htcnt : u.tcnt.toNat = s.tcnt.toNat := hsu.tcnt.trans (Nat.mod_eq_of_lt hc)
      rw [ih hsu.run (hsu.tcnt_lt hc) hes' hrest, applyEvent_host_frame hu htake, htcnt,
        hsu.params, tickCount_host]
    | tick =>
      cases hu
      have hsu := advances_tick hrun hc
      rw [ih hsu.run (hsu.tcnt_lt hc) hes' hrest, State.tick_frame_ticking hrun,
        State.tick_params, State.tick_tcnt hrun, nextTcnt_toNat_eq_ite hc, isBoundary_eq_decide,
        Bool.or_assoc, ← Bool.decide_or, tickCount_tick]
      congr 2
      apply propext
      split <;> omega

/-- Settles O41. -/
theorem boundariesMerge : Obligations.BoundariesMerge := by
  intro es s hrun hc hes
  obtain ⟨t, ht⟩ := runEvents_completes es s
  exact ⟨t, _, _, ht, (runEvents_advances hrun hc (fun e he => (hes e he).1) ht).tcnt,
    runEvents_frame hrun hc hes ht, exec_takeWord t,
    congrArg some (zextBit_eq_ite t.frame), exec_takeWord _, rfl⟩

end Sys2Proof.Machine

/-! ## Proofs: arming, and the closed form (43_refresh_scheduler.md R190-R191, R199, R209) -/

namespace Sys2Proof.Machine

/-! ### The transaction that arms (R199) -/

theorem isArm_iff {w : Word16} : (TxnEvent.host w).isArm = true ↔
    wordWrite w = true ∧ wordAddr w = 0x10#7 ∧ ctrlArm (wordData w) = true := by
  simp [TxnEvent.isArm, and_assoc]

theorem exec_arm {w : Word16} (hw : (TxnEvent.host w).isArm = true) (s : State) :
    exec (decode w) s = .next (s.writeCtrl (wordData w)).acknowledge := by
  obtain ⟨hwrite, haddr, -⟩ := isArm_iff.1 hw
  rw [exec_decode_write hwrite, haddr, hostWrite_ctrl]

/-- From Idle a transaction reaches Ticking exactly if it arms. -/
theorem exec_ticking_iff {w : Word16} {s t : State} (h : exec (decode w) s = .next t)
    (hs : s.run = .idle) : t.run = .ticking ↔ (TxnEvent.host w).isArm = true := by
  constructor
  · intro ht
    obtain ⟨hwrite, haddr⟩ := exec_ctrl_write h (.inl (by simp [hs, ht]))
    rw [exec_decode_write hwrite, haddr, hostWrite_ctrl] at h
    cases h
    rw [State.acknowledge_run, State.writeCtrl_run] at ht
    refine isArm_iff.2 ⟨hwrite, haddr, by_contra fun hd => ?_⟩
    rw [if_neg hd, hs] at ht
    cases ht
  · intro hw
    rw [exec_arm hw] at h
    cases h
    obtain ⟨-, -, hd⟩ := isArm_iff.1 hw
    simp [hd]

/-! ### Arming in a run from reset (R209) -/

/-- Idle since reset, as the scheduler's fields show it (R191). -/
structure Unticked (p : Params) (s : State) : Prop where
  params : s.params = p
  layer : s.layer = p.resetLayer
  tcnt : s.tcnt = 0#8
  frame : s.frame = false

/-- No event but a reset or an arming write changes the scheduler of an Idle block. -/
theorem runEvents_unarmed {p : Params} {es : List TxnEvent} {s t : State}
    (hes : ∀ e ∈ es, e ≠ .reset ∧ e.isArm = false) (h : runEvents es s = .next t)
    (hs : s.run = .idle ∧ Unticked p s) : t.run = .idle ∧ Unticked p t := by
  refine runEvents_preserves (P := fun u => u.run = .idle ∧ Unticked p u)
    (fun e he u v huv hu => ?_) h hs
  obtain ⟨hidle, hunticked⟩ := hu
  obtain ⟨hreset, harm⟩ := hes e he
  cases e with
  | reset => exact absurd rfl hreset
  | tick =>
    cases huv
    rw [State.tick_idle hidle]
    exact ⟨hidle, hunticked⟩
  | host w =>
    have hne : v.run ≠ .ticking := fun hv => by simp [(exec_ticking_iff huv hidle).1 hv] at harm
    have hframe := exec_frame (i := decode w) huv hunticked.frame
    refine ⟨v.run_eq_idle_or_ticking.resolve_right hne, ?_⟩
    obtain ⟨_, _, _, _, _, _, rfl⟩ := exec_cases (i := decode w) huv
    exact { hunticked with frame := hframe }

/-- From reset to the state the arming write leaves. -/
theorem runEvents_arm {p : Params} {before : List TxnEvent} {w : Word16}
    (hbefore : ∀ e ∈ before, e ≠ .reset ∧ e.isArm = false)
    (hw : (TxnEvent.host w).isArm = true) : ∃ t,
    (∀ es, runEvents (before ++ .host w :: es) (State.resetWith p) = runEvents es t) ∧
      t.run = .ticking ∧ Unticked p t := by
  obtain ⟨u, hu⟩ := runEvents_completes before (State.resetWith p)
  obtain ⟨hidle, hunticked⟩ := runEvents_unarmed hbefore hu ⟨rfl, rfl, rfl, rfl, rfl⟩
  have harm : exec (decode w) u = .next (u.writeCtrl (wordData w)).acknowledge := exec_arm hw u
  refine ⟨_, fun es => ?_, (exec_ticking_iff harm hidle).2 hw, { hunticked with }⟩
  rw [runEvents_append _ hu]
  exact runEvents_append es (runEvents_singleton (e := .host w) harm)

/-- Right after a FRAMETAKE read `frame` is 0 (R222). -/
theorem runEvents_take_frame {es : List TxnEvent} {e : TxnEvent} {s t : State}
    (he : e.isTake = true) (h : runEvents (es ++ [e]) s = .next t) : t.frame = false := by
  obtain ⟨u, hu⟩ := runEvents_completes es s
  rw [runEvents_append [e] hu] at h
  obtain ⟨v, hv, hvt⟩ := runEvents_cons h
  cases hvt
  cases e with
  | host w =>
    obtain ⟨hread, haddr⟩ : wordWrite w = false ∧ wordAddr w = 0x14#7 := by
      simpa [TxnEvent.isTake] using he
    have hv' : exec (decode w) u = .next t := hv
    rw [exec_decode_read hread] at hv'
    cases hv'
    simp [State.afterRead, haddr]
  | tick => cases he
  | reset => cases he

/-- A counter that has gone `m % d` of its way runs over in `k` more ticks exactly if a multiple of
`d` lies in between. -/
theorem le_mod_add_iff_div_lt_div {d : Nat} (hd : 0 < d) (m k : Nat) :
    d ≤ m % d + k ↔ m / d < (m + k) / d := by
  have hm := Nat.div_add_mod m d
  have hsucc : (m / d + 1) * d = d * (m / d) + d := by ring
  rw [Nat.lt_iff_add_one_le, Nat.le_div_iff_mul_le hd, hsucc]
  omega

/-- Settles O42: the run up to the last FRAMETAKE read leaves `frame` 0, and from there `frame` says
whether the counter has run over. -/
theorem closedFormOfTicks : Obligations.ClosedFormOfTicks := by
  intro p before upTo since w hp hbefore hw hreset hupTo hsince
  obtain ⟨a, harm, hrun, ha⟩ := runEvents_arm (p := p) hbefore hw
  have hc : a.tcnt.toNat < a.params.frameDiv.toNat := by
    rw [ha.tcnt, ha.params]
    exact hp
  obtain ⟨u, hu⟩ := runEvents_completes upTo a
  obtain ⟨t, ht⟩ := runEvents_completes since u
  have hau : Advances a (tickCount upTo) u :=
    runEvents_advances hrun hc (fun e he => hreset e (List.mem_append_left _ he)) hu
  have hreset' : ∀ e ∈ since, e ≠ .reset := fun e he => hreset e (List.mem_append_right _ he)
  have hut : Advances u (tickCount since) t :=
    runEvents_advances hau.run (hau.tcnt_lt hc) hreset' ht
  have hat := hau.trans hut
  have huframe : u.frame = false := by
    obtain rfl | ⟨es, e, rfl, he⟩ := hupTo
    · cases hu
      exact ha.frame
    · exact runEvents_take_frame he hu
  have hframe := runEvents_frame hau.run (hau.tcnt_lt hc)
    (fun e he => ⟨hreset' e he, hsince e he⟩) ht
  refine ⟨t, (harm _).trans ((runEvents_append since hu).trans ht), ?layer, ?tcnt, ?frame⟩
  case layer => rw [hat.layer, ha.layer, tickCount_append]
  case tcnt => simpa [ha.tcnt, ha.params, tickCount_append] using hat.tcnt
  case frame =>
    rw [hframe, huframe, hau.tcnt, hau.params, ha.tcnt, ha.params, tickCount_append,
      ← le_mod_add_iff_div_lt_div hp]
    simp

/-! ### Steps (R190) -/

/-- From Idle, a step outside a reset either leaves the block Idle and performs no arming write, or
serves the port. -/
theorem step_of_idle {s t : State} (h : step s = .next t) (hr : s.slot.reset = false)
    (hs : s.run = .idle) :
    (t.run = .idle ∧ ∀ w, s.commits ≠ some (.host w)) ∨ ∃ u w ws, Serves s u ∧
      s.commits = some (.host w) ∧ exec (decode w) { u with port := ws } = .next t := by
  cases step_cases h with
  | reset hr' _ => simp [hr] at hr'
  | drive _ e rest he ht => exact .inl ⟨by rw [ht]; exact hs, by simp [commits_drive hr he]⟩
  | again _ he hs' ht =>
    refine .inl ⟨?_, by simp [commits_again hr he hs']⟩
    rw [ht, (leavesHost_again hs').run, hs]
  | start _ _ _ hrun _ => simp [hs] at hrun
  | wait _ hu hp => exact .inl ⟨hu.leavesHost.run.trans hs, by simp [commits_wait hr hu hp]⟩
  | serve _ u hu w ws hp ht => exact .inr ⟨u, w, ws, hu, commits_serve hr hu hp, ht⟩

/-- Settles O43: from Idle only a step that serves the port can arm, and while Idle the port is
served between ticks. -/
theorem armingIsOneWay : Obligations.ArmingIsOneWay := by
  intro s t h hr
  refine ⟨fun hs => ?_, fun hs => ?_, fun hinv hs ht => ?_⟩
  · obtain hk | ⟨w, u, -, hk, ht⟩ := step_host h hr
    · exact hk.run.trans hs
    · exact applyEvent_host_ticking ht (hk.run.trans hs)
  · obtain ⟨ht, hno⟩ | ⟨u, w, ws, hu, hcommit, ht⟩ := step_of_idle h hr hs
    · simp [ht, hno]
    · rw [exec_ticking_iff ht (hu.leavesHost.run.trans hs), hcommit]
      simp
  · obtain ⟨ht', -⟩ | ⟨u, w, ws, hu, hcommit, hexec⟩ := step_of_idle h hr hs
    · simp [ht'] at ht
    · have hw := (exec_ticking_iff hexec (hu.leavesHost.run.trans hs)).1 ht
      rw [exec_arm hw] at hexec
      cases hexec
      cases hu with
      | between he _ hu => subst hu; exact ⟨he, rfl, rfl, rfl, rfl, rfl⟩
      | ended he _ _ => simp [(hinv.idle hs).engine] at he

end Sys2Proof.Machine

/-! ## Proofs: a host that waits for boundaries (44_frame_sync.md R226, R229, R231)

Where FRAMESYNC stands is described by the number of turns of the host that, once `frame` is 1,
lead to the end of the round it is in. A tick leaves the place as it is, and a turn brings that end
nearer if `frame` is 1 or this round's boundary has been consumed already. -/

namespace Sys2Proof.Machine

/-! ### One poll -/

/-- What is left of a poll's body, in either form, and in how many turns its read is made. -/
inductive Reading : Nat → HostCmd → Prop
  | wait : Reading 3 (.seq .waitIrq (.xact takeWord))
  | woken : Reading 2 (.seq .skip (.xact takeWord))
  | read : Reading 1 (.xact takeWord)

/-- The poll loop with the body `body`. -/
abbrev pollLoop (body : HostCmd) : HostCmd := .loopUntil body gotFrame

/-- The test of the poll loop. -/
abbrev pollTest (body : HostCmd) : HostCmd := .ifThen (.not gotFrame) (pollLoop body)

/-- What is left of a poll whose body reads in `k` turns, given the host's `v`, and in how many
turns it returns if its next read consumes a boundary. -/
inductive Polling (k : Nat) (body : HostCmd) (v : Byte) : Nat → HostCmd → Prop
  | loop : Polling k body v (k + 3) (pollLoop body)
  | reading {i : Nat} {c : HostCmd} (hc : Reading i c) (hi : i ≤ k) :
      Polling k body v (i + 2) (.seq c (pollTest body))
  | got (hv : v[0] = true) : Polling k body v 2 (.seq .skip (pollTest body))
  | missed (hv : v[0] = false) : Polling k body v (k + 5) (.seq .skip (pollTest body))
  | passed (hv : v[0] = true) : Polling k body v 1 (pollTest body)
  | failed (hv : v[0] = false) : Polling k body v (k + 4) (pollTest body)
  | returned : Polling k body v 0 .skip

/-- The host turn in which a poll's read is made. -/
def System.take (p : System) : System where
  lcre := p.lcre.clearFrame.respond (zextBit p.lcre.frame)
  prog := .skip
  v := zextBit p.lcre.frame
  log := p.log ++ [.xact takeWord (some (zextBit p.lcre.frame))]

theorem Reading.ne_skip {i : Nat} {c : HostCmd} (h : Reading i c) : c ≠ .skip := by
  cases h <;> simp

/-- A turn of the host in a poll's body: it waits for `irq`, comes nearer to the read, or reads. -/
theorem Reading.hostTurn {i : Nat} {c : HostCmd} {p : System} (h : Reading i c) (hp : p.prog = c) :
    (i = 3 ∧ p.lcre.irq = false ∧ p.hostTurn = p) ∨
    (∃ j d, i = j + 1 ∧ Reading j d ∧ p.hostTurn = { p with prog := d }) ∨
    (i = 1 ∧ p.hostTurn = p.take) := by
  cases h with
  | wait =>
    cases hirq : p.lcre.irq with
    | false =>
      exact .inl ⟨rfl, rfl, by simp [System.hostTurn, hp, HostCmd.move, hirq]⟩
    | true =>
      exact .inr (.inl ⟨2, _, rfl, .woken,
        System.hostTurn_silent (by simp [hp, HostCmd.move, hirq])⟩)
  | woken => exact .inr (.inl ⟨1, _, rfl, .read, System.hostTurn_silent (by rw [hp]; rfl)⟩)
  | read =>
    exact .inr (.inr ⟨rfl, System.hostTurn_issue (by rw [hp]; rfl) (exec_takeWord p.lcre)⟩)

/-- `frame` is 1, or the turns `m` that are left come after the read that consumed the boundary. -/
def System.Ready (p : System) (late m : Nat) : Prop := p.lcre.frame = true ∨ m ≤ late

/-- From a place with `m` turns left the turn leads to another; to a nearer one if `p` is ready. -/
def System.Nears (p q : System) (late m : Nat) (place : Byte → Nat → HostCmd → Prop) : Prop :=
  ∃ m', place q.v m' q.prog ∧ (p.Ready late m → m' < m ∧ q.Ready late m')

section
variable {k r m n : Nat} {body c : HostCmd} {p : System}

/-- What a turn of the host does before a poll's read is made, or as it is made. -/
theorem Reading.hostTurn_poll {i : Nat} (hfie : 2 ≤ k → p.lcre.fie = true) (hc : Reading i c)
    (hi : i ≤ k) (hp : p.prog = .seq c (pollTest body)) :
    p.hostTurn.lcre.fie = p.lcre.fie ∧ p.Nears p.hostTurn 2 (i + 2) (Polling k body) := by
  have hseq : p = ({ p with prog := c } : System).andThen (pollTest body) := by
    simp [System.andThen, ← hp]
  have hturn := System.hostTurn_andThen (p := { p with prog := c }) hc.ne_skip (pollTest body)
  rw [← hseq] at hturn
  obtain ⟨rfl, hirq, hstay⟩ | ⟨j, d, rfl, hd, hnear⟩ | ⟨rfl, htake⟩ :=
    hc.hostTurn (p := { p with prog := c }) rfl
  · rw [hstay, ← hseq] at hturn
    rw [hturn]
    refine ⟨rfl, 5, hp ▸ .reading hc hi, fun hready => absurd hready ?_⟩
    have hframe : p.lcre.frame = false := by simpa [State.irq, hfie (by omega)] using hirq
    simp [System.Ready, hframe]
  · rw [hturn, hnear]
    refine ⟨rfl, j + 2, .reading hd (by omega), fun hready => ⟨by omega, ?_⟩⟩
    exact hready.imp_right (by omega)
  · rw [hturn, htake]
    refine ⟨rfl, ?_⟩
    cases hframe : p.lcre.frame with
    | false =>
      refine ⟨k + 5, .missed (by simp [System.andThen, System.take, hframe]), fun hready => ?_⟩
      simp [System.Ready, hframe] at hready
    | true =>
      exact ⟨2, .got (by simp [System.andThen, System.take, hframe]), fun _ =>
        ⟨by omega, .inr le_rfl⟩⟩

/-- What a turn of the host inside a poll does, where the low-power form has its interrupt
enabled. -/
theorem Polling.hostTurn (hbody : Reading k body) (hfie : 2 ≤ k → p.lcre.fie = true)
    (h : Polling k body p.v m c) (hp : p.prog = c) (hc : c ≠ .skip) :
    p.hostTurn.lcre.fie = p.lcre.fie ∧ p.Nears p.hostTurn 2 m (Polling k body) := by
  have silent {d : HostCmd} {m' : Nat} (hmove : c.move p.v p.lcre.irq = .silent d)
      (hd : Polling k body p.v m' d) (hm : m' < m) (hlate : m ≤ 2 → m' ≤ 2) :
      p.hostTurn.lcre.fie = p.lcre.fie ∧ p.Nears p.hostTurn 2 m (Polling k body) := by
    rw [System.hostTurn_silent (hp ▸ hmove)]
    exact ⟨rfl, m', hd, fun hready => ⟨hm, hready.imp_right hlate⟩⟩
  cases h with
  | loop => exact silent rfl (.reading hbody le_rfl) (by omega) (by omega)
  | got hv => exact silent rfl (.passed hv) (by omega) (by omega)
  | missed hv => exact silent rfl (.failed hv) (by omega) (by omega)
  | passed hv =>
    exact silent (by simp [HostCmd.move, Cond.holds, hv]) .returned (by omega) (by omega)
  | failed hv => exact silent (by simp [HostCmd.move, Cond.holds, hv]) .loop (by omega) (by omega)
  | returned => exact absurd rfl hc
  | reading hc' hi => exact hc'.hostTurn_poll hfie hi hp

theorem Polling.turns_le (h : Polling k body p.v m c) : m ≤ k + 5 := by
  cases h <;> omega

/-! ### One round of FRAMESYNC -/

/-- What is left of FRAMESYNC in the last round but `r`, after the discarding read, and in how many
turns the round is behind it if its next read consumes a boundary. -/
inductive Round (k : Nat) (body : HostCmd) (r : Nat) (v : Byte) : Nat → HostCmd → Prop
  | discarded : Round k body r v (k + 7) (.seq .skip (.repeatN (r + 1) (pollLoop body)))
  | first : Round k body r v (k + 6) (.repeatN (r + 1) (pollLoop body))
  | poll {m : Nat} {c : HostCmd} (hc : Polling k body v m c) :
      Round k body r v (m + 2) (.seq c (.repeatN r (pollLoop body)))
  | ended : Round k body r v 1 (.repeatN r (pollLoop body))

/-- FRAMESYNC has `r` rounds to go, or has returned. -/
def System.RoundsLeft (k : Nat) (body : HostCmd) (p : System) : Nat → Prop
  | 0 => p.prog = .skip
  | r + 1 => ∃ m, Round k body r p.v m p.prog

theorem Round.turns_le (h : Round k body r p.v m c) : m ≤ k + 7 := by
  cases h with
  | discarded => exact le_rfl
  | first => omega
  | poll hc => have := hc.turns_le; omega
  | ended => omega

theorem Round.turns_pos (h : Round k body r p.v m c) : 1 ≤ m := by
  cases h <;> omega

/-- What a turn of the host inside a round does: it ends the round or stays in it. -/
theorem Round.hostTurn (hbody : Reading k body) (hfie : 2 ≤ k → p.lcre.fie = true)
    (h : Round k body r p.v m c) (hp : p.prog = c) :
    p.hostTurn.lcre.fie = p.lcre.fie ∧
      (p.hostTurn.RoundsLeft k body r ∨ p.Nears p.hostTurn 4 m (Round k body r)) := by
  have silent {d : HostCmd} {m' : Nat} (hturn : p.hostTurn = { p with prog := d })
      (hd : Round k body r p.v m' d) (hm : m' < m) (hlate : m ≤ 4 → m' ≤ 4) :
      p.hostTurn.lcre.fie = p.lcre.fie ∧
        (p.hostTurn.RoundsLeft k body r ∨ p.Nears p.hostTurn 4 m (Round k body r)) := by
    rw [hturn]
    exact ⟨rfl, .inr ⟨m', hd, fun hready => ⟨hm, hready.imp_right hlate⟩⟩⟩
  cases h with
  | discarded =>
    exact silent (System.hostTurn_silent (by rw [hp]; rfl)) .first (by omega) (by omega)
  | first =>
    exact silent (System.hostTurn_silent (by rw [hp]; rfl)) (.poll .loop) (by omega) (by omega)
  | ended =>
    cases r with
    | zero =>
      rw [System.hostTurn_silent (c := .skip) (by rw [hp]; rfl)]
      exact ⟨rfl, .inl rfl⟩
    | succ r =>
      rw [System.hostTurn_silent (by rw [hp]; rfl)]
      exact ⟨rfl, .inl ⟨_, .poll .loop⟩⟩
  | @poll m c hc =>
    have hseq : p = ({ p with prog := c } : System).andThen (.repeatN r (pollLoop body)) := by
      simp [System.andThen, ← hp]
    by_cases hskip : c = .skip
    · subst hskip
      obtain rfl : m = 0 := by cases hc; rfl
      exact silent (System.hostTurn_silent (by rw [hp]; rfl)) .ended (by omega) (by omega)
    · have hturn := System.hostTurn_andThen (p := { p with prog := c }) hskip
        (.repeatN r (pollLoop body))
      obtain ⟨hkeep, m', hd, hnear⟩ := hc.hostTurn (p := { p with prog := c }) hbody hfie rfl hskip
      rw [← hseq] at hturn
      rw [hturn]
      refine ⟨hkeep, .inr ⟨m' + 2, .poll hd, fun hready => ?_⟩⟩
      obtain ⟨hm, hready'⟩ := hnear (hready.imp_right (by omega))
      exact ⟨by omega, hready'.imp_right (by omega)⟩

/-! ### Runs -/

/-- FRAMESYNC has at most `n` rounds to go; the low-power form has its interrupt enabled. -/
structure System.Waits (k : Nat) (body : HostCmd) (n : Nat) (p : System) : Prop where
  fie : 2 ≤ k → p.lcre.fie = true
  left : ∃ r ≤ n, p.RoundsLeft k body r

theorem System.Waits.mono (h : p.Waits k body m) (hmn : m ≤ n) : p.Waits k body n :=
  ⟨h.fie, h.left.imp fun _ hr => ⟨hr.1.trans hmn, hr.2⟩⟩

theorem System.Waits.tickTurn (h : p.Waits k body n) : p.tickTurn.Waits k body n where
  fie hk := p.lcre.tick_fie.trans (h.fie hk)
  left := h.left.imp fun r hr => ⟨hr.1, by cases r <;> exact hr.2⟩

theorem System.Waits.hostTurn (hbody : Reading k body) (h : p.Waits k body n) :
    p.hostTurn.Waits k body n := by
  obtain ⟨hfie, r, hr, hleft⟩ := h
  cases r with
  | zero => rw [System.hostTurn_skip hleft]; exact ⟨hfie, 0, hr, hleft⟩
  | succ r =>
    obtain ⟨m, hround⟩ := hleft
    obtain ⟨hkeep, hleft' | ⟨m', hround', -⟩⟩ := hround.hostTurn hbody hfie rfl
    · exact ⟨fun hk => hkeep.trans (hfie hk), r, by omega, hleft'⟩
    · exact ⟨fun hk => hkeep.trans (hfie hk), r + 1, hr, m', hround'⟩

theorem System.Waits.turn (hbody : Reading k body) (h : p.Waits k body n) {t : Turn}
    (ht : t ≠ .reset) : (p.turn t).Waits k body n := by
  cases t with
  | host => exact h.hostTurn hbody
  | tick => exact h.tickTurn
  | reset => exact absurd rfl ht

theorem System.Waits.runTurns (hbody : Reading k body) (h : p.Waits k body n) {ts : List Turn}
    (hts : Turn.reset ∉ ts) : (p.runTurns ts).Waits k body n := by
  induction ts generalizing p with
  | nil => exact h
  | cons t ts ih =>
    rw [List.mem_cons, not_or] at hts
    exact ih (h.turn hbody (Ne.symm hts.1)) hts.2

/-- A round whose boundary has come is behind FRAMESYNC after the turns of the host it has left. -/
theorem Round.runTurns (hbody : Reading k body) (hfie : 2 ≤ k → p.lcre.fie = true)
    (h : Round k body r p.v m p.prog) (hready : p.Ready 4 m) {ts : List Turn}
    (hts : Turn.reset ∉ ts) (hm : m ≤ ts.count .host) : (p.runTurns ts).Waits k body r := by
  induction ts generalizing p m with
  | nil =>
    have := h.turns_pos
    simp at hm
    omega
  | cons t ts ih =>
    rw [List.mem_cons, not_or] at hts
    obtain ⟨ht, hts⟩ := hts
    cases t with
    | reset => exact absurd rfl ht
    | tick =>
      have hframe : p.tickTurn.lcre.frame = (p.lcre.frame || p.lcre.tickHappening.isBoundary) :=
        p.lcre.tick_frame
      refine ih (p := p.tickTurn) (fun hk => p.lcre.tick_fie.trans (hfie hk)) h
        (hready.imp_left fun hf => by simp [hframe, hf]) hts (by simpa using hm)
    | host =>
      rw [List.count_cons_self] at hm
      obtain ⟨hkeep, hleft | ⟨m', hround, hnear⟩⟩ := h.hostTurn hbody hfie rfl
      · exact System.Waits.runTurns hbody ⟨fun hk => hkeep.trans (hfie hk), r, le_rfl, hleft⟩ hts
      · obtain ⟨hm', hready'⟩ := hnear hready
        exact ih (p := p.hostTurn) (fun hk => hkeep.trans (hfie hk)) hround hready' hts (by omega)

/-- One boundary and turns enough for a poll leave one round fewer. -/
theorem System.Waits.runTurns_of_frame (hbody : Reading k body) (h : p.Waits k body (n + 1))
    (hframe : p.lcre.frame = true) {ts : List Turn} (hts : Turn.reset ∉ ts)
    (hfew : k + 7 ≤ ts.count .host) : (p.runTurns ts).Waits k body n := by
  obtain ⟨hfie, r, hr, hleft⟩ := h
  cases r with
  | zero => exact System.Waits.runTurns hbody ⟨hfie, 0, Nat.zero_le n, hleft⟩ hts
  | succ r =>
    obtain ⟨m, hround⟩ := hleft
    have hone := hround.runTurns hbody hfie (.inl hframe) hts (hround.turns_le.trans hfew)
    exact hone.mono (by omega)

/-- The first turn of FRAMESYNC(n) makes the discarding read, or finds nothing to do. -/
theorem waits_of_framesync (hfie : 2 ≤ k → p.lcre.fie = true)
    (hp : p.prog = framesyncWith (pollLoop body) n) : p.hostTurn.Waits k body n := by
  cases n with
  | zero =>
    rw [System.hostTurn_skip hp]
    exact ⟨hfie, 0, le_rfl, hp⟩
  | succ n =>
    rw [System.hostTurn_issue (by rw [hp]; rfl) (exec_takeWord p.lcre)]
    exact ⟨hfie, n + 1, le_rfl, _, .discarded⟩

theorem System.Waits.prog_eq_skip (h : p.Waits k body 0) : p.prog = .skip := by
  obtain ⟨-, r, hr, hleft⟩ := h
  obtain rfl : r = 0 := Nat.le_zero.1 hr
  exact hleft

end

end Sys2Proof.Machine

/-! ## Proofs: FRAMESYNC returns in time (44_frame_sync.md R229 (5)) -/

namespace Sys2Proof.Machine

/-- A turn of the host leaves LCRE as it is, or performs one transaction on it. -/
theorem System.hostTurn_lcre (p : System) :
    p.hostTurn.lcre = p.lcre ∨ ∃ w, applyEvent (.host w) p.lcre = .next p.hostTurn.lcre := by
  unfold System.hostTurn
  cases p.prog.move p.v p.lcre.irq with
  | done => exact .inl rfl
  | wait => exact .inl rfl
  | silent c => exact .inl rfl
  | issue w c =>
    obtain ⟨t, ht⟩ := applyEvent_completes (.host w) p.lcre
    exact .inr ⟨w, by simp only [System.transact, ht]⟩

/-- On a Ticking block, outside a reset, a turn takes the counter as far as the ticks in it. -/
theorem System.turn_advances {p : System} (hrun : p.lcre.run = .ticking)
    (hc : p.lcre.tcnt.toNat < p.lcre.params.frameDiv.toNat) {t : Turn} (ht : t ≠ .reset) :
    Advances p.lcre (decide (t = .tick)).toNat (p.turn t).lcre := by
  cases t with
  | reset => exact absurd rfl ht
  | tick => exact advances_tick hrun hc
  | host =>
    obtain h | ⟨w, hw⟩ := p.hostTurn_lcre
    · exact (congrArg (Advances p.lcre 0) h).mpr (.refl hrun hc)
    · exact advances_host hrun hc hw

theorem System.hostTurns_advances {p : System} (hrun : p.lcre.run = .ticking)
    (hc : p.lcre.tcnt.toNat < p.lcre.params.frameDiv.toNat) (h : Nat) :
    Advances p.lcre 0 (p.runTurns (List.replicate h .host)).lcre := by
  induction h generalizing p with
  | zero => exact .refl hrun hc
  | succ h ih =>
    have hturn := System.turn_advances hrun hc (t := .host) (by simp)
    exact hturn.trans (ih hturn.run (hturn.tcnt_lt hc))

theorem System.runTurns_append (p : System) (ts us : List Turn) :
    p.runTurns (ts ++ us) = (p.runTurns ts).runTurns us :=
  List.foldl_append

/-- A tick, and `h` turns of the host after it. -/
abbrev tickThen (h : Nat) : List Turn := .tick :: List.replicate h .host

theorem System.tickThen_advances {p : System} (hrun : p.lcre.run = .ticking)
    (hc : p.lcre.tcnt.toNat < p.lcre.params.frameDiv.toNat) (h : Nat) :
    Advances p.lcre 1 (p.runTurns (tickThen h)).lcre :=
  have htick : Advances p.lcre 1 p.tickTurn.lcre := advances_tick hrun hc
  htick.trans (System.hostTurns_advances htick.run (htick.tcnt_lt hc) h)

/-- With ticks to come that take the counter to `n * FRAME_DIV`, a FRAMESYNC with `n` rounds to go
returns, if the host has the turns of a poll after each boundary. -/
theorem System.Waits.returns {k n : Nat} {body : HostCmd} {p : System} (hbody : Reading k body)
    (h : p.Waits k body n) (hrun : p.lcre.run = .ticking)
    (hc : p.lcre.tcnt.toNat < p.lcre.params.frameDiv.toNat) {hs : List Nat}
    (hlen : n * p.lcre.params.frameDiv.toNat ≤ p.lcre.tcnt.toNat + hs.length)
    (hfew : ∀ i h : Nat, hs[i]? = some h →
      (p.lcre.tcnt.toNat + i + 1) % p.lcre.params.frameDiv.toNat = 0 → k + 7 ≤ h) :
    (p.runTurns (hs.flatMap tickThen)).prog = .skip := by
  induction hs generalizing p n with
  | nil =>
    have hn : n = 0 := by
      by_contra hn
      have := Nat.le_mul_of_pos_left p.lcre.params.frameDiv.toNat (Nat.pos_of_ne_zero hn)
      simp at hlen
      omega
    subst hn
    exact h.prog_eq_skip
  | cons a hs ih =>
    rw [List.flatMap_cons, System.runTurns_append]
    have hno : Turn.reset ∉ List.replicate a Turn.host := by simp
    have htick : p.tickTurn.Waits k body n := h.tickTurn
    have hadv := System.tickThen_advances hrun hc a
    have goOn {m : Nat} (hm : (p.runTurns (tickThen a)).Waits k body m)
        (hlen' : m * p.lcre.params.frameDiv.toNat ≤
          (p.lcre.tcnt.toNat + 1) % p.lcre.params.frameDiv.toNat + hs.length) :
        ((p.runTurns (tickThen a)).runTurns (hs.flatMap tickThen)).prog = .skip := by
      refine ih hm hadv.run (hadv.tcnt_lt hc) (by rwa [hadv.params, hadv.tcnt])
        fun i h hi hmod => hfew (i + 1) h hi ?_
      rw [hadv.params, hadv.tcnt, Nat.add_assoc, Nat.mod_add_mod] at hmod
      rwa [show p.lcre.tcnt.toNat + (i + 1) + 1 = p.lcre.tcnt.toNat + 1 + (i + 1) by omega]
    rw [List.length_cons] at hlen
    by_cases hb : p.lcre.tcnt.toNat + 1 = p.lcre.params.frameDiv.toNat
    · cases n with
      | zero => exact goOn (htick.runTurns hbody hno) (by simp)
      | succ n =>
        have hframe : p.tickTurn.lcre.frame = true := by
          refine (State.tick_frame_ticking hrun).trans ?_
          simp [isBoundary_eq_decide, hb]
        have ha : k + 7 ≤ a := hfew 0 a rfl (by simp [hb])
        refine goOn (htick.runTurns_of_frame hbody hframe hno (by simpa using ha)) ?_
        rw [Nat.succ_mul] at hlen
        rw [hb, Nat.mod_self]
        omega
    · refine goOn (htick.runTurns hbody hno) ?_
      rw [Nat.mod_eq_of_lt (by omega)]
      omega

/-- The two forms of the poll loop: their bodies read in 1 and in 3 turns. -/
theorem exists_reading_of_poll {poll : HostCmd} {few : Nat} {s : State}
    (h : (poll = pollFrame ∧ few = 8) ∨ (poll = pollFrameIrq ∧ few = 10 ∧ s.fie = true)) :
    ∃ k body, poll = pollLoop body ∧ few = k + 7 ∧ Reading k body ∧ (2 ≤ k → s.fie = true) := by
  obtain ⟨rfl, rfl⟩ | ⟨rfl, rfl, hfie⟩ := h
  · exact ⟨1, _, rfl, rfl, .read, fun h => absurd h (by decide)⟩
  · exact ⟨3, _, rfl, rfl, .wait, fun _ => hfie⟩

/-- Settles O58: the first turn makes the discarding read, and the turns before the first tick leave
the counter as it is. -/
theorem framesyncReturnsInTime : Obligations.FramesyncReturnsInTime := by
  intro poll few n h0 hs s v hpoll hrun hc hh0 hlen hfew
  obtain ⟨k, body, rfl, rfl, hbody, hfie⟩ := exists_reading_of_poll hpoll
  obtain ⟨h, rfl⟩ := Nat.exists_eq_add_of_le' hh0
  set p : System := { lcre := s, prog := framesyncWith (pollLoop body) n, v := v, log := [] }
  have hadv : Advances s 0 (p.runTurns (List.replicate (h + 1) .host)).lcre :=
    System.hostTurns_advances (p := p) hrun hc (h + 1)
  have htcnt : (p.runTurns (List.replicate (h + 1) .host)).lcre.tcnt.toNat = s.tcnt.toNat :=
    hadv.tcnt.trans (Nat.mod_eq_of_lt hc)
  have hwaits : (p.runTurns (List.replicate (h + 1) .host)).Waits k body n :=
    (waits_of_framesync (p := p) hfie rfl).runTurns hbody (by simp)
  rw [System.runTurns_append]
  refine hwaits.returns hbody hadv.run (hadv.tcnt_lt hc) ?_ fun i h hi hmod => hfew i h hi ?_
  · rw [htcnt, hadv.params, hlen]
    exact Nat.le_add_left _ _
  · rwa [htcnt, hadv.params] at hmod

end Sys2Proof.Machine

/-! ## Proofs: progress (43_refresh_scheduler.md R192, 44 R229 (5)) -/

namespace Sys2Proof.Machine

/-! ### Boundaries recur where ticks do -/

section
variable {s : Nat → State} {tick : Nat → Bool} {m : Nat}

/-- Until the next tick the counter stays. -/
theorem exists_next_tick (hadv : ∀ k, m ≤ k → Advances (s k) (tick k).toNat (s (k + 1)))
    (htick : ∃ j, m ≤ j ∧ tick j = true) (hrun : (s m).run = .ticking)
    (hc : (s m).tcnt.toNat < (s m).params.frameDiv.toNat) :
    ∃ j, m ≤ j ∧ tick j = true ∧ Advances (s m) 0 (s j) := by
  obtain ⟨j, hj, htj⟩ := htick
  obtain ⟨i, rfl⟩ := Nat.exists_eq_add_of_le' hj
  clear hj
  induction i generalizing m with
  | zero => exact ⟨m, le_rfl, by simpa using htj, .refl hrun hc⟩
  | succ i ih =>
    cases htm : tick m with
    | true => exact ⟨m, le_rfl, htm, .refl hrun hc⟩
    | false =>
      have hstep : Advances (s m) 0 (s (m + 1)) := by simpa [htm] using hadv m le_rfl
      rw [Nat.add_right_comm, Nat.add_assoc] at htj
      obtain ⟨j, hj, htj', hstay⟩ :=
        ih (fun k hk => hadv k (by omega)) hstep.run (hstep.tcnt_lt hc) htj
      exact ⟨j, by omega, htj', hstep.trans hstay⟩

/-- Where the counter follows the ticks and ticks recur, a boundary comes: every tick before it
brings the counter nearer to FRAME_DIV. -/
theorem exists_boundary (hadv : ∀ k, m ≤ k → Advances (s k) (tick k).toNat (s (k + 1)))
    (htick : ∀ k, ∃ j, k ≤ j ∧ tick j = true) (hrun : (s m).run = .ticking)
    (hc : (s m).tcnt.toNat < (s m).params.frameDiv.toNat) :
    ∃ k, m ≤ k ∧ tick k = true ∧ isBoundary (s k).params.frameDiv (s k).tcnt = true := by
  induction hd : (s m).params.frameDiv.toNat - (s m).tcnt.toNat using Nat.strong_induction_on
    generalizing m with
  | _ d ih =>
  obtain ⟨j, hj, htj, hstay⟩ := exists_next_tick hadv (htick m) hrun hc
  by_cases hb : (s j).tcnt.toNat + 1 = (s j).params.frameDiv.toNat
  · exact ⟨j, hj, htj, by simp [isBoundary_eq_decide, hb]⟩
  · have hcj := hstay.tcnt_lt hc
    have hstep : Advances (s j) 1 (s (j + 1)) := by simpa [htj] using hadv j hj
    have hmj : (s j).tcnt.toNat = (s m).tcnt.toNat := hstay.tcnt.trans (Nat.mod_eq_of_lt hc)
    have hnext : (s (j + 1)).tcnt.toNat = (s j).tcnt.toNat + 1 :=
      hstep.tcnt.trans (Nat.mod_eq_of_lt (by omega))
    have hnear : (s (j + 1)).params.frameDiv.toNat - (s (j + 1)).tcnt.toNat < d := by
      rw [hnext, hmj, hstep.params, hstay.params]
      omega
    obtain ⟨k, hk, hbk⟩ :=
      ih _ hnear (fun k hk => hadv k (by omega)) hstep.run (hstep.tcnt_lt hcj) rfl
    exact ⟨k, by omega, hbk⟩

end

/-! ### The transaction level -/

/-- No event takes the counter out of its range (R26). -/
theorem applyEvent_tcnt_lt {e : TxnEvent} {s t : State} (h : applyEvent e s = .next t)
    (hc : s.tcnt.toNat < s.params.frameDiv.toNat) : t.tcnt.toNat < t.params.frameDiv.toNat := by
  cases e with
  | reset => cases h; exact Nat.zero_lt_of_lt hc
  | host w => obtain ⟨_, _, _, _, _, _, rfl⟩ := exec_cases (i := decode w) h; exact hc
  | tick =>
    cases h
    obtain hrun | hrun := s.run_eq_idle_or_ticking
    · rw [State.tick_idle hrun]; exact hc
    · exact (advances_tick hrun hc).tcnt_lt hc

/-- An event that keeps a block Ticking takes the counter as far as the tick it may be. -/
theorem applyEvent_advances {e : TxnEvent} {s t : State} (h : applyEvent e s = .next t)
    (hs : s.run = .ticking) (ht : t.run = .ticking)
    (hc : s.tcnt.toNat < s.params.frameDiv.toNat) :
    Advances s (decide (e = .tick)).toNat t := by
  cases e with
  | reset => cases h; cases ht
  | tick => cases h; exact advances_tick hs hc
  | host w => exact advances_host hs hc h

theorem IsRun.exists_boundary {s : Nat → State} {es : Nat → TxnEvent} (h : IsRun s es)
    (hc : (s 0).tcnt.toNat < (s 0).params.frameDiv.toNat)
    (hrun : ∃ m, ∀ k, m ≤ k → (s k).run = .ticking) (m : Nat) :
    ∃ k, m ≤ k ∧ es k = .tick ∧ isBoundary (s k).params.frameDiv (s k).tcnt = true := by
  have hck : ∀ k, (s k).tcnt.toNat < (s k).params.frameDiv.toNat := fun k => by
    induction k with
    | zero => exact hc
    | succ k ih => exact applyEvent_tcnt_lt (h.follows k) ih
  have htick := h.progress hrun
  obtain ⟨start, hrun⟩ := hrun
  have hfrom := Nat.le_max_left m start
  have hticking := Nat.le_max_right m start
  obtain ⟨k, hk, htk, hb⟩ := Machine.exists_boundary (m := max m start)
    (tick := fun k => decide (es k = .tick))
    (fun k hk => applyEvent_advances (h.follows k) (hrun k (hticking.trans hk))
      (hrun (k + 1) (by omega)) (hck k))
    (by simpa using htick) (hrun _ hticking) (hck _)
  exact ⟨k, hfrom.trans hk, by simpa using htk, hb⟩

/-! ### The pin level -/

theorem step_reset {s : State} (hr : s.slot.reset = true) : step s = .next s.arrive.doReset := by
  simp [step, State.cycle, hr]

section
variable {s : Nat → State} {arrivals : Nat → Slot} {m : Nat}
  (hstep : ∀ k, step ((s k).given (arrivals k)) = .next (s (k + 1)))
include hstep

/-- While a block stays Ticking no reset comes. -/
theorem no_reset_of_ticking (hrun : ∀ k, m ≤ k → (s k).run = .ticking) (k : Nat) (hk : m ≤ k) :
    (arrivals k).reset = false := by
  by_contra hr
  have hreset : ((s k).given (arrivals k)).slot.reset = true := Bool.eq_true_of_not_eq_false hr
  have hnext := (hstep k).symm.trans (step_reset hreset)
  have hidle := hrun (k + 1) (by omega)
  rw [Host.Outcome.next.inj hnext] at hidle
  cases hidle

/-- A strobe latched or coming during a tick becomes a tick of its own (R196). -/
theorem pending_becomes_tick (hr : ∀ k, m ≤ k → (arrivals k).reset = false)
    {rest : List PinEvent} (he : (s m).engine = .driving rest)
    (hp : ((s m).tickPending || (arrivals m).tick) = true) :
    ∃ k, m ≤ k ∧ ((s k).given (arrivals k)).commits = some .tick := by
  induction rest generalizing m with
  | nil => exact ⟨m, le_rfl, commits_again (s := (s m).given _) (hr m le_rfl) he hp⟩
  | cons e rest ih =>
    have hnext := Host.Outcome.next.inj ((hstep m).symm.trans
      (step_drive (s := (s m).given (arrivals m)) (hr m le_rfl) he))
    have hp' : (s (m + 1)).tickPending = true := by rw [hnext]; exact hp
    obtain ⟨k, hk, hcommit⟩ := ih (m := m + 1) (fun k hk => hr k (by omega))
      (by rw [hnext]; rfl) (by simp [hp'])
    exact ⟨k, by omega, hcommit⟩

/-- A strobe on a block that stays Ticking is accepted at once or latched (R196). -/
theorem strobe_becomes_tick (hrun : ∀ k, m ≤ k → (s k).run = .ticking)
    (ht : (arrivals m).tick = true) :
    ∃ k, m ≤ k ∧ ((s k).given (arrivals k)).commits = some .tick := by
  have hr := no_reset_of_ticking hstep hrun
  cases he : (s m).engine with
  | quiet =>
    exact ⟨m, le_rfl, commits_start (s := (s m).given _) (hr m le_rfl) he ht (hrun m le_rfl)⟩
  | driving rest => exact pending_becomes_tick hstep hr he (by simp [ht])

theorem isPinRun_of_strobes (hstrobe : ∀ m, ∃ k, m ≤ k ∧ (arrivals k).tick = true) :
    IsPinRun s arrivals where
  follows := hstep
  progress := by
    rintro ⟨start, hrun⟩ m
    obtain ⟨j, hj, ht⟩ := hstrobe (max m start)
    obtain ⟨k, hk, hcommit⟩ :=
      strobe_becomes_tick hstep (m := j) (fun k hk => hrun k (by omega)) ht
    exact ⟨k, by omega, hcommit⟩

end

/-! ### The host and LCRE -/

/-- The `l` turns of a schedule that begin with turn `m`. -/
def turnsFrom (sched : Nat → Turn) (m l : Nat) : List Turn :=
  (List.range l).map fun i => sched (m + i)

theorem turnsFrom_add (sched : Nat → Turn) (m a b : Nat) :
    turnsFrom sched m (a + b) = turnsFrom sched m a ++ turnsFrom sched (m + a) b := by
  simp [turnsFrom, List.range_add, Function.comp_def, Nat.add_assoc]

theorem turnsFrom_one (sched : Nat → Turn) (m : Nat) : turnsFrom sched m 1 = [sched m] := rfl

theorem System.after_add (p : System) (sched : Nat → Turn) (m l : Nat) :
    p.after sched (m + l) = (p.after sched m).runTurns (turnsFrom sched m l) := by
  induction l with
  | zero => rfl
  | succ l ih =>
    rw [turnsFrom_add, turnsFrom_one, System.runTurns_append, ← ih]
    rfl

/-- A host that is given turns again and again is given any number of them. -/
theorem exists_count_host {sched : Nat → Turn} (hhost : ∀ m, ∃ k, m ≤ k ∧ sched k = .host)
    (n m : Nat) : ∃ l, n ≤ (turnsFrom sched m l).count .host := by
  induction n generalizing m with
  | zero => exact ⟨0, Nat.zero_le _⟩
  | succ n ih =>
    obtain ⟨k, hk, hkh⟩ := hhost m
    obtain ⟨i, rfl⟩ := Nat.exists_eq_add_of_le hk
    obtain ⟨l, hl⟩ := ih (m + (i + 1))
    refine ⟨i + 1 + l, ?_⟩
    rw [turnsFrom_add, turnsFrom_add, turnsFrom_one, hkh]
    simp only [List.count_append, List.count_singleton_self]
    omega

section
variable {p : System} {sched : Nat → Turn} {k : Nat} {body : HostCmd}
  (hno : ∀ j, sched j ≠ .reset)
include hno

theorem reset_notMem_turnsFrom (m l : Nat) : Turn.reset ∉ turnsFrom sched m l := by
  simp [turnsFrom, hno]

/-- A Ticking block stays Ticking with its counter in range, and the counter follows the ticks. -/
theorem System.after_advances (hrun : p.lcre.run = .ticking)
    (hc : p.lcre.tcnt.toNat < p.lcre.params.frameDiv.toNat) (j : Nat) :
    (p.after sched j).lcre.run = .ticking ∧
      (p.after sched j).lcre.tcnt.toNat < (p.after sched j).lcre.params.frameDiv.toNat ∧
      Advances (p.after sched j).lcre (decide (sched j = .tick)).toNat
        (p.after sched (j + 1)).lcre := by
  have hturn {q : System} (hq : q.lcre.run = .ticking)
      (hcq : q.lcre.tcnt.toNat < q.lcre.params.frameDiv.toNat) (j : Nat) :=
    System.turn_advances hq hcq (hno j)
  induction j with
  | zero => exact ⟨hrun, hc, hturn hrun hc 0⟩
  | succ j ih =>
    obtain ⟨-, hcj, hadv⟩ := ih
    exact ⟨hadv.run, hadv.tcnt_lt hcj, hturn hadv.run (hadv.tcnt_lt hcj) (j + 1)⟩

/-- Under a fair schedule the rounds of FRAMESYNC that are left come to their end, one by one. -/
theorem System.Waits.terminates (hfair : p.Fair sched) (hrun : p.lcre.run = .ticking)
    (hc : p.lcre.tcnt.toNat < p.lcre.params.frameDiv.toNat) (hbody : Reading k body) {n m : Nat}
    (h : (p.after sched m).Waits k body n) : ∃ j, (p.after sched j).prog = .skip := by
  induction n generalizing m with
  | zero => exact ⟨m, h.prog_eq_skip⟩
  | succ n ih =>
    have hafter := System.after_advances hno hrun hc
    have htick := hfair.progress ⟨0, fun j _ => (hafter j).1⟩
    obtain ⟨j, hj, htj, hb⟩ := exists_boundary (s := fun j => (p.after sched j).lcre)
      (tick := fun j => decide (sched j = .tick)) (m := m) (fun j _ => (hafter j).2.2)
      (by simpa using htick) (hafter m).1 (hafter m).2.1
    obtain ⟨i, rfl⟩ := Nat.exists_eq_add_of_le hj
    have hturn : p.after sched (m + i + 1) = (p.after sched (m + i)).tickTurn := by
      rw [System.after, of_decide_eq_true htj]
      rfl
    have hframe : (p.after sched (m + i + 1)).lcre.frame = true := by
      rw [hturn]
      refine (State.tick_frame_ticking (hafter (m + i)).1).trans ?_
      rw [hb, Bool.or_true]
    have hwaits : (p.after sched (m + i + 1)).Waits k body (n + 1) := by
      rw [Nat.add_assoc, System.after_add]
      exact h.runTurns hbody (reset_notMem_turnsFrom hno _ _)
    obtain ⟨l, hl⟩ := exists_count_host hfair.host (k + 7) (m + i + 1)
    have hfewer := hwaits.runTurns_of_frame hbody hframe (reset_notMem_turnsFrom hno _ l) hl
    rw [← System.after_add] at hfewer
    exact ih hfewer

/-- The first turn of the host begins FRAMESYNC(n); ticks before it leave the program as it is. -/
theorem System.exists_waits (hhost : ∃ j, sched j = .host) {n : Nat}
    (hfie : 2 ≤ k → p.lcre.fie = true) (hp : p.prog = framesyncWith (pollLoop body) n) :
    ∃ m, (p.after sched m).Waits k body n := by
  have begins {j : Nat} (hj : sched j = .host) (hfie : 2 ≤ k → (p.after sched j).lcre.fie = true)
      (hp : (p.after sched j).prog = framesyncWith (pollLoop body) n) :
      ∃ m, (p.after sched m).Waits k body n :=
    ⟨j + 1, by rw [System.after, hj]; exact waits_of_framesync hfie hp⟩
  have hall (j : Nat) : (∃ m, (p.after sched m).Waits k body n) ∨
      (2 ≤ k → (p.after sched j).lcre.fie = true) ∧
        (p.after sched j).prog = framesyncWith (pollLoop body) n := by
    induction j with
    | zero => exact .inr ⟨hfie, hp⟩
    | succ j ih =>
      refine ih.elim .inl fun ⟨hfie, hp⟩ => ?_
      cases hj : sched j with
      | host => exact .inl (begins hj hfie hp)
      | reset => exact absurd hj (hno j)
      | tick =>
        rw [System.after, hj]
        exact .inr ⟨fun hk => (State.tick_fie _).trans (hfie hk), hp⟩
  obtain ⟨j, hj⟩ := hhost
  exact (hall j).elim id fun ⟨hfie, hp⟩ => begins hj hfie hp

end

/-- Settles O59: ticks recur, so boundaries do; a strobe on a Ticking block becomes a tick; and
FRAMESYNC ends a round after each boundary. -/
theorem progressEndsTheWait : Obligations.ProgressEndsTheWait := by
  refine ⟨fun s es h hc hrun => h.exists_boundary hc hrun,
    fun s arrivals hstep => isPinRun_of_strobes hstep, ?_⟩
  intro poll n s v sched hpoll hrun hc hno p hfair
  obtain ⟨few, hform⟩ : ∃ few, (poll = pollFrame ∧ few = 8) ∨
      (poll = pollFrameIrq ∧ few = 10 ∧ s.fie = true) :=
    hpoll.elim (fun h => ⟨8, .inl ⟨h, rfl⟩⟩) fun h => ⟨10, .inr ⟨h.1, rfl, h.2⟩⟩
  obtain ⟨k, body, rfl, -, hbody, hfie⟩ := exists_reading_of_poll hform
  have hhost : ∃ j, sched j = .host := (hfair.host 0).imp fun _ hj => hj.2
  obtain ⟨m, hwaits⟩ := System.exists_waits (p := p) hno hhost hfie rfl
  exact hwaits.terminates hno hfair hrun hc hbody

end Sys2Proof.Machine

/-! ## Proofs: STATUS and FRAMETAKE reads (44_frame_sync.md R220, R222) -/

namespace Sys2Proof.Machine

/-- The bits of STATUS as it reads (R32). -/
theorem State.statusByte_bits (s : State) :
    s.statusByte.getLsbD 0 = s.frame ∧ s.statusByte.getLsbD 1 = s.ticking ∧
      s.statusByte.getLsbD 2 = s.irq ∧ s.statusByte.extractLsb' 3 5 = 0#5 := by
  unfold State.statusByte
  cases s.irq <;> cases s.ticking <;> cases s.frame <;> exact ⟨rfl, rfl, rfl, rfl⟩

/-- Settles O15: the value is STATUS as it reads. -/
theorem statusReadValue : Obligations.StatusReadValue := fun _ s =>
  ⟨s.statusByte, rfl, by simpa only [State.ticking_eq_decide, State.irq] using s.statusByte_bits⟩

/-- Settles O16: the read responds with `frame` as it was before the clear. -/
theorem frametakeTestsAndClears : Obligations.FrametakeTestsAndClears := fun _ s =>
  ⟨s.clearFrame.respond (zextBit s.frame), rfl,
    congrArg (fun v => { s with frame := false, rdata := some v }) (zextBit_eq_ite s.frame), rfl⟩

end Sys2Proof.Machine

/-! ## Proofs: when `irq` rises and falls (44_frame_sync.md R225, 60 R258) -/

namespace Sys2Proof.Machine

/-! ### Transactions -/

/-- A CTRL write that leaves `b` in FIE (R199). -/
def WritesFie (w : Word16) (b : Bool) : Prop :=
  wordWrite w = true ∧ wordAddr w = 0x10#7 ∧ (wordData w).getLsbD 2 = b

/-- A CTRL write is no FRAMETAKE read. -/
theorem WritesFie.not_isTake {w : Word16} {b : Bool} (h : WritesFie w b) :
    (TxnEvent.host w).isTake = false := by
  simp [TxnEvent.isTake, h.1]

theorem writesFie_iff_of_writesFie {w : Word16} {b c : Bool} (h : WritesFie w b) :
    WritesFie w c ↔ b = c := by
  obtain ⟨hwrite, haddr, rfl⟩ := h
  simp [WritesFie, hwrite, haddr]

/-- What a transaction does to the two bits behind `irq` (R39): a FRAMETAKE read clears `frame`, a
CTRL write rewrites FIE, and any other leaves both. -/
inductive IrqEffect (w : Word16) (s t : State) : Prop where
  | take (hw : (TxnEvent.host w).isTake = true) (hctrl : ∀ b, ¬ WritesFie w b)
      (hframe : t.frame = false)
  | ctrl (b : Bool) (hw : WritesFie w b) (hframe : t.frame = s.frame) (hfie : t.fie = b)
  | none (hw : (TxnEvent.host w).isTake = false) (hctrl : ∀ b, ¬ WritesFie w b)
      (hframe : t.frame = s.frame) (hfie : t.fie = s.fie)

theorem exec_irqEffect {w : Word16} {s t : State} (h : exec (decode w) s = .next t) :
    IrqEffect w s t := by
  by_cases hctrl : wordWrite w = true ∧ wordAddr w = 0x10#7
  · obtain ⟨hwrite, haddr⟩ := hctrl
    rw [exec_decode_write hwrite, haddr, hostWrite_ctrl] at h
    cases h
    exact .ctrl _ ⟨hwrite, haddr, rfl⟩ rfl rfl
  · have hno : ∀ b, ¬ WritesFie w b := fun b hb => hctrl ⟨hb.1, hb.2.1⟩
    cases hw : (TxnEvent.host w).isTake with
    | true => exact .take hw hno (runEvents_take_frame (es := []) hw (runEvents_singleton h))
    | false =>
      have hfie : t.fie = s.fie := by_contra fun hne => hctrl (exec_ctrl_write h (.inr (.inr hne)))
      exact .none hw hno (applyEvent_host_frame h hw) hfie

/-- `irq` is 1 after a transaction exactly if `frame` was 1, and FIE was 1 and the transaction
neither takes `frame` nor clears FIE, or the transaction sets FIE. -/
theorem exec_irq_iff {w : Word16} {s t : State} (h : exec (decode w) s = .next t) :
    t.irq = true ↔ s.frame = true ∧
      ((s.fie = true ∧ (TxnEvent.host w).isTake = false ∧ ¬ WritesFie w false) ∨
        WritesFie w true) := by
  rw [State.irq, Bool.and_eq_true]
  cases exec_irqEffect h with
  | take hw hctrl hframe => simp [hw, hctrl, hframe]
  | ctrl b hw hframe hfie =>
    rw [writesFie_iff_of_writesFie hw, writesFie_iff_of_writesFie hw, hframe, hfie]
    cases b <;> simp [hw.not_isTake]
  | none hw hctrl hframe hfie => simp [hw, hctrl, hframe, hfie]

/-- A transaction lowers `irq` exactly if it takes `frame` or clears FIE. -/
theorem exec_irq_falls_iff {w : Word16} {s t : State} (h : exec (decode w) s = .next t)
    (hs : s.irq = true) :
    t.irq = false ↔ (TxnEvent.host w).isTake = true ∨ WritesFie w false := by
  obtain ⟨hframe, hfie⟩ : s.frame = true ∧ s.fie = true := by simpa [State.irq] using hs
  rw [State.irq, Bool.and_eq_false_iff]
  cases exec_irqEffect h with
  | take hw hctrl hframe' => simp [hw, hframe']
  | ctrl b hw hframe' hfie' =>
    simp [hw.not_isTake, writesFie_iff_of_writesFie hw, hframe', hframe, hfie']
  | none hw hctrl hframe' hfie' => simp [hw, hctrl, hframe', hframe, hfie', hfie]

/-! ### Steps -/

/-- The coming step, outside a reset, ends a tick that is a frame boundary (R193). -/
def State.AtBoundary (s : State) : Prop :=
  s.engine = .driving [] ∧ s.tcnt.toNat + 1 = s.params.frameDiv.toNat

/-- The ENGINE's part in a step, as far as `irq` sees it: a boundary sets `frame` (R193). -/
structure CountsBoundary (s u : State) : Prop where
  frame : u.frame = true ↔ s.frame = true ∨ s.AtBoundary
  fie : u.fie = s.fie

/-- Inside a tick and between ticks nothing is counted. -/
theorem countsBoundary_of_not_ended {s u : State} (he : s.engine ≠ .driving [])
    (hframe : u.frame = s.frame) (hfie : u.fie = s.fie) : CountsBoundary s u where
  frame := by simp [State.AtBoundary, he, hframe]
  fie := hfie

theorem countsBoundary_of_ended {s u : State} (he : s.engine = .driving [])
    (hframe : u.frame = s.arrive.endTick.frame) (hfie : u.fie = s.fie) : CountsBoundary s u where
  frame := by simp [State.AtBoundary, he, hframe, isBoundary_eq_decide]
  fie := hfie

theorem Serves.countsBoundary {s u : State} (hu : Serves s u) : CountsBoundary s u := by
  cases hu with
  | between he _ hu => exact countsBoundary_of_not_ended (by simp [he]) (hu ▸ rfl) (hu ▸ rfl)
  | ended he _ hu => exact countsBoundary_of_ended he (hu ▸ rfl) (hu ▸ rfl)

/-- Outside a reset a step does the ENGINE's part, and then performs a transaction or none. -/
theorem step_countsBoundary {s t : State} (h : step s = .next t) (hr : s.slot.reset = false) :
    (CountsBoundary s t ∧ ∀ w, s.commits ≠ some (.host w)) ∨
      ∃ w u, s.commits = some (.host w) ∧ CountsBoundary s u ∧ exec (decode w) u = .next t := by
  cases step_cases h with
  | reset hr' _ => simp [hr] at hr'
  | drive _ e rest he ht =>
    exact .inl ⟨countsBoundary_of_not_ended (by simp [he]) (ht ▸ rfl) (ht ▸ rfl),
      by simp [commits_drive hr he]⟩
  | again _ he hs ht =>
    refine .inl ⟨?_, by simp [commits_again hr he hs]⟩
    obtain ht' | ht' := finishTick_again_cases (s := s.arrive) hs <;> rw [ht, ht'] <;>
      exact countsBoundary_of_ended he rfl rfl
  | start _ he hs hrun ht =>
    exact .inl ⟨countsBoundary_of_not_ended (by simp [he]) (ht ▸ rfl) (ht ▸ rfl),
      by simp [commits_start hr he hs hrun]⟩
  | wait _ hu hp => exact .inl ⟨hu.countsBoundary, by simp [commits_wait hr hu hp]⟩
  | serve _ u hu w ws hp ht =>
    exact .inr ⟨w, { u with port := ws }, commits_serve hr hu hp, { hu.countsBoundary with }, ht⟩

/-! ### The statement -/

theorem applyEvent_irq_rises_iff {e : TxnEvent} {s t : State} (h : applyEvent e s = .next t)
    (he : e ≠ .reset) (hs : s.irq = false) :
    t.irq = true ↔
      (e = .tick ∧ s.run = .ticking ∧ s.fie = true ∧
        s.tcnt.toNat + 1 = s.params.frameDiv.toNat) ∨
      ∃ w, e = .host w ∧ WritesFie w true ∧ s.frame = true := by
  have hoff : s.fie = true → s.frame = false := fun hfie => by
    simpa [State.irq, hfie] using hs
  cases e with
  | reset => exact absurd rfl he
  | tick =>
    cases h
    cases hrun : s.run with
    | idle => simp [State.tick_idle hrun, hs]
    | ticking =>
      simp only [State.irq, State.tick_frame_ticking hrun, State.tick_fie, isBoundary_eq_decide]
      cases hfie : s.fie with
      | false => simp
      | true => simp [hoff hfie]
  | host w =>
    rw [exec_irq_iff h]
    cases hfie : s.fie with
    | false => simp [and_comm]
    | true => simp [hoff hfie]

theorem applyEvent_irq_falls_iff {e : TxnEvent} {s t : State} (h : applyEvent e s = .next t)
    (he : e ≠ .reset) (hs : s.irq = true) :
    t.irq = false ↔
      ∃ w, e = .host w ∧ ((TxnEvent.host w).isTake = true ∨ WritesFie w false) := by
  cases e with
  | reset => exact absurd rfl he
  | tick =>
    cases h
    obtain ⟨hframe, hfie⟩ : s.frame = true ∧ s.fie = true := by simpa [State.irq] using hs
    simp [State.irq, State.tick_frame, hframe, hfie]
  | host w =>
    rw [exec_irq_falls_iff h hs]
    simp

theorem step_irq_rises_iff {s t : State} (h : step s = .next t) (hr : s.slot.reset = false)
    (hs : s.irq = false) :
    t.irq = true ↔
      (s.fie = true ∧ s.AtBoundary ∧ ∀ w, s.commits = some (.host w) →
        (TxnEvent.host w).isTake = false ∧ ¬ WritesFie w false) ∨
      ∃ w, s.commits = some (.host w) ∧ WritesFie w true ∧ (s.frame = true ∨ s.AtBoundary) := by
  have hoff : s.fie = true → s.frame = false := fun hfie => by
    simpa [State.irq, hfie] using hs
  obtain ⟨hk, hno⟩ | ⟨w, u, hcommit, hk, ht⟩ := step_countsBoundary h hr
  · rw [State.irq, Bool.and_eq_true, hk.frame, hk.fie]
    cases hfie : s.fie with
    | false => simp [hno]
    | true => simp [hno, hoff hfie]
  · rw [exec_irq_iff ht, hk.frame, hk.fie, hcommit]
    cases hfie : s.fie with
    | false => simp [and_comm]
    | true => simp [hoff hfie, and_or_left, and_comm]

theorem step_irq_falls_iff {s t : State} (h : step s = .next t) (hr : s.slot.reset = false)
    (hs : s.irq = true) :
    t.irq = false ↔
      ∃ w, s.commits = some (.host w) ∧
        ((TxnEvent.host w).isTake = true ∨ WritesFie w false) := by
  obtain ⟨hframe, hfie⟩ : s.frame = true ∧ s.fie = true := by simpa [State.irq] using hs
  have stays {u : State} (hk : CountsBoundary s u) : u.irq = true := by
    rw [State.irq, Bool.and_eq_true, hk.fie]
    exact ⟨hk.frame.2 (.inl hframe), hfie⟩
  obtain ⟨hk, hno⟩ | ⟨w, u, hcommit, hk, ht⟩ := step_countsBoundary h hr
  · simp [stays hk, hno]
  · rw [exec_irq_falls_iff ht (stays hk), hcommit]
    simp

/-- Settles O45: an event by what it does to `frame` and FIE, a step by the ENGINE's part and then at
most one transaction. -/
theorem irqRisesAndFalls : Obligations.IrqRisesAndFalls := by
  refine ⟨fun e s t h he => ⟨fun hs => ?_, applyEvent_irq_falls_iff h he⟩,
    fun s t h hr => ⟨fun hs => ?_, step_irq_falls_iff h hr⟩⟩
  · simpa only [WritesFie, and_assoc] using applyEvent_irq_rises_iff h he hs
  · rw [step_irq_rises_iff h hr hs]
    simp only [WritesFie, State.AtBoundary, and_assoc, not_and, Bool.not_eq_false,
      and_left_comm (a := s.fie = true) (b := s.engine = .driving [])]

end Sys2Proof.Machine

/-! ## Proofs: FRAMESYNC(0), and what FRAMESYNC(n) consumes (44_frame_sync.md R226-R231) -/

namespace Sys2Proof.Machine

/-! ### A host that has returned (R227) -/

theorem System.runTurns_skip {p : System} (h : p.prog = .skip) (ts : List Turn) :
    (p.runTurns ts).prog = .skip := by
  induction ts generalizing p with
  | nil => exact h
  | cons t ts ih =>
    refine ih (p := p.turn t) ?_
    cases t with
    | host => exact (congrArg System.prog (System.hostTurn_skip h)).trans h
    | tick => exact h
    | reset => exact h

/-- The record has grown by no transaction since it was `l₀`, and `frame` is 1 if it was `f₀`. -/
def Untouched (l₀ : List Happening) (f₀ : Bool) : Assertion := fun s _ l =>
  (∃ l', l = l₀ ++ l' ∧ NoXact l') ∧ (f₀ = true → s.frame = true)

theorem untouched_stable (l₀ : List Happening) (f₀ : Bool) : (Untouched l₀ f₀).Stable := by
  rintro s v l ⟨⟨l', rfl, hl'⟩, hframe⟩
  refine ⟨⟨l' ++ [s.tickHappening], by simp, hl'.concat s.tickHappening_isXact⟩, fun hf => ?_⟩
  rw [State.tick_frame, hframe hf, Bool.true_or]

/-- Settles O55: FRAMESYNC(0) has returned before its first turn. -/
theorem framesyncZeroDoesNothing : Obligations.FramesyncZeroDoesNothing := by
  intro p ts hp hr
  have hskip : (p.runTurns ts).prog = .skip := System.runTurns_skip hp ts
  obtain ⟨hlog, hframe⟩ := HostTriple.skip (untouched_stable p.log p.lcre.frame) p hp
    ⟨⟨[], by simp, by simp [NoXact]⟩, id⟩ ts (Nat.lt_succ_self _) hr hskip
  exact ⟨hskip, hlog, hframe⟩

/-! ### Both forms of the poll loop (R226, R231) -/

theorem HostTriple.waitIrq {n : Nat} {A : Assertion} (hA : A.Stable) :
    HostTriple n A .waitIrq A := by
  induction n using Nat.strong_induction_on with
  | _ n ih =>
  refine .of_hostTurn hA (by simp) fun m hm p hp hs => ?_
  cases hirq : p.lcre.irq with
  | false =>
    have hstay : p.hostTurn = p := by simp [System.hostTurn, hp, HostCmd.move, hirq]
    rw [hstay]
    exact ih m hm p hp hs
  | true =>
    rw [System.hostTurn_silent (c := .skip) (by simp [hp, HostCmd.move, hirq])]
    exact HostTriple.skip hA _ rfl hs

/-- A poll loop, in either form: FRAMETAKE reads make `B` true, until one of them returns 1. -/
theorem HostTriple.poll {poll : HostCmd} (hpoll : poll = pollFrame ∨ poll = pollFrameIrq)
    {n : Nat} {A B C : Assertion} (hA : A.Stable) (hB : B.Stable) (hC : C.Stable)
    (htake : ∀ n, HostTriple n A (.xact takeWord) B)
    (hagain : ∀ s v l, B s v l → v[0] = false → A s v l)
    (hdone : ∀ s v l, B s v l → v[0] = true → C s v l) : HostTriple n A poll C := by
  simp only [← gotFrame_holds] at hagain hdone
  obtain rfl | rfl := hpoll
  · exact .loopUntil hA hB hC htake hagain hdone
  · exact .loopUntil hA hB hC (fun n => (HostTriple.waitIrq hA).seq (htake n)) hagain hdone

/-! ### What FRAMESYNC(n) has consumed (R229) -/

/-- The record once FRAMESYNC has made its discarding read: `c` boundaries consumed since and at
least `b` that happened. -/
def Syncing (c b : Nat) (l : List Happening) : Prop :=
  ∃ pre v₀ post, l = pre ++ .xact takeWord (some v₀) :: post ∧ NoXact pre ∧
    post.countP Happening.consumed = c ∧ b ≤ post.countP Happening.isBoundary

/-- The record grows; a consumed boundary counts, and so does one that happens. -/
theorem Syncing.concat {c b : Nat} {l : List Happening} (hl : Syncing c b l) (h : Happening) :
    Syncing (c + h.consumed.toNat) (b + h.isBoundary.toNat) (l ++ [h]) := by
  obtain ⟨pre, v₀, post, rfl, hpre, rfl, hb⟩ := hl
  refine ⟨pre, v₀, post ++ [h], by simp, hpre, ?_, ?_⟩
  · cases hh : h.consumed <;> simp [List.countP_append, hh]
  · cases hh : h.isBoundary <;> simp [List.countP_append, hh, hb]

theorem Syncing.mono {c b d : Nat} {l : List Happening} (h : Syncing c b l) (hd : d ≤ b) :
    Syncing c d l := by
  obtain ⟨pre, v₀, post, hl, hpre, hc, hb⟩ := h
  exact ⟨pre, v₀, post, hl, hpre, hc, hd.trans hb⟩

@[simp] theorem State.tickHappening_consumed (s : State) : s.tickHappening.consumed = false := by
  cases h : s.ticking <;> simp [State.tickHappening, h, Happening.consumed]

@[simp] theorem consumed_take (b : Bool) :
    (Happening.xact takeWord (some (zextBit b))).consumed = b := by
  cases b <;> rfl

/-- After the discarding read and `k` consumed boundaries; a pending `frame` stands for one more
that happened. -/
def Synced (k : Nat) : Assertion := fun s _ l => Syncing k (k + s.frame.toNat) l

/-- After one read of a poll: whether it consumed a boundary is in `v[0]`. -/
def SyncedPolled (k : Nat) : Assertion := fun s v l => Synced (k + v[0].toNat) s v l

theorem synced_stable (k : Nat) : (Synced k).Stable := fun s v l h => by
  have hgrown := Syncing.concat h s.tickHappening
  rw [State.tickHappening_consumed] at hgrown
  refine hgrown.mono ?_
  rw [State.tick_frame]
  cases s.frame <;> cases s.tickHappening.isBoundary <;> simp

theorem syncedPolled_stable (k : Nat) : (SyncedPolled k).Stable := fun s v l h =>
  synced_stable (k + v[0].toNat) s v l h

/-- One FRAMETAKE read consumes the boundary that `frame` stands for, if it is 1. -/
theorem take_consumes_frame (n k : Nat) :
    HostTriple n (Synced k) (.xact takeWord) (SyncedPolled k) := by
  refine .xact (synced_stable k) (syncedPolled_stable k) fun s v l h => ⟨_, exec_takeWord s, ?_⟩
  simpa [SyncedPolled, Synced, Happening.isBoundary] using
    Syncing.concat h (.xact takeWord (some (zextBit s.frame)))

theorem take_begins (n : Nat) : HostTriple n Unarmed (.xact takeWord) (Synced 0) := by
  refine .xact unarmed_stable (synced_stable 0) fun s v l h => ⟨_, exec_takeWord s, ?_⟩
  exact ⟨l, zextBit s.frame, [], rfl, h, rfl, Nat.le_refl 0⟩

section
variable {poll : HostCmd} (hpoll : poll = pollFrame ∨ poll = pollFrameIrq)
include hpoll

theorem poll_consumes_one (n k : Nat) : HostTriple n (Synced k) poll (Synced (k + 1)) := by
  refine .poll hpoll (synced_stable k) (syncedPolled_stable k) (synced_stable (k + 1))
    (take_consumes_frame · k) (fun s v l h hv => ?_) fun s v l h hv => ?_
  · simpa [SyncedPolled, hv] using h
  · simpa [SyncedPolled, hv] using h

/-- FRAMESYNC(k), k at least 1, returns with exactly `k` boundaries consumed. -/
theorem framesync_consumes_exactly (n k : Nat) (hk : 1 ≤ k) :
    HostTriple n Unarmed (framesyncWith poll k) (Synced k) := by
  obtain ⟨m, rfl⟩ := Nat.exists_eq_add_of_le' hk
  have hpolls : HostTriple n (Synced 0) (.repeatN (m + 1) poll) (Synced (0 + (m + 1))) :=
    .repeatN synced_stable (poll_consumes_one hpoll) (m + 1) 0
  rw [Nat.zero_add] at hpolls
  exact (take_begins n).seq hpolls

end

/-- Settles O56: the triple of FRAMESYNC(n), from an empty record. -/
theorem framesyncConsumesExactlyN : Obligations.FramesyncConsumesExactlyN := by
  intro poll n s v ts hpoll hn hr p hend
  obtain ⟨pre, v₀, post, hlog, hpre, hconsumed, hboundaries⟩ :=
    framesync_consumes_exactly hpoll (ts.length + 1) n hn _ rfl
      (by simp [System.Sat, Unarmed, NoXact]) ts (Nat.lt_succ_self _) hr hend
  exact ⟨pre, v₀, post, hlog, hpre, hconsumed, (Nat.le_add_right _ _).trans hboundaries⟩

/-! ### FRAMESYNC(n) on an Idle block (R230) -/

/-- The block is Idle. -/
def Idle : Assertion := fun s _ _ => s.run = .idle

/-- Idle with no boundary pending: there is none to come. -/
def IdleNoFrame : Assertion := fun s _ _ => s.run = .idle ∧ s.frame = false

/-- After a read of a poll that returned 0. -/
def IdlePolled : Assertion := fun s v l => IdleNoFrame s v l ∧ v[0] = false

/-- What no state meets: a program with this postcondition does not return. -/
def Never : Assertion := fun _ _ _ => False

theorem idle_stable : Idle.Stable := fun s _ _ h => s.tick_run.trans h

theorem idleNoFrame_stable : IdleNoFrame.Stable := fun s v l ⟨hrun, hframe⟩ => by
  rw [State.tick_idle hrun]
  exact ⟨hrun, hframe⟩

theorem idlePolled_stable : IdlePolled.Stable := fun s v l ⟨h, hv⟩ =>
  ⟨idleNoFrame_stable s v l h, hv⟩

theorem never_stable : Never.Stable := fun _ _ _ h => h

section
variable {poll : HostCmd} (hpoll : poll = pollFrame ∨ poll = pollFrameIrq)
include hpoll

theorem poll_never_returns (n : Nat) : HostTriple n IdleNoFrame poll Never := by
  refine .poll hpoll idleNoFrame_stable idlePolled_stable never_stable (fun n => ?_)
    (fun s v l h _ => h.1) fun s v l ⟨_, hv⟩ hv' => Bool.false_ne_true (hv.symm.trans hv')
  refine .xact idleNoFrame_stable idlePolled_stable fun s v l ⟨hrun, hframe⟩ =>
    ⟨_, exec_takeWord s, ⟨hrun, rfl⟩, ?_⟩
  simp [hframe]

theorem framesync_never_returns (n k : Nat) (hk : 1 ≤ k) :
    HostTriple n Idle (framesyncWith poll k) Never := by
  obtain ⟨m, rfl⟩ := Nat.exists_eq_add_of_le' hk
  have hfirst : HostTriple n Idle (.xact takeWord) IdleNoFrame :=
    .xact idle_stable idleNoFrame_stable fun s v l h => ⟨_, exec_takeWord s, h, rfl⟩
  have hpolls : HostTriple n IdleNoFrame (.repeatN (m + 1) poll) Never :=
    .silent idleNoFrame_stable (fun _ _ => rfl) fun n _ =>
      (poll_never_returns hpoll n).seq fun _ _ hnever => False.elim hnever
  exact hfirst.seq hpolls

end

/-- A host program whose transactions are FRAMETAKE reads. -/
def HostCmd.TakesOnly : HostCmd → Prop
  | .skip => True
  | .xact w => w = takeWord
  | .seq a b => a.TakesOnly ∧ b.TakesOnly
  | .loopUntil body _ => body.TakesOnly
  | .repeatN _ body => body.TakesOnly
  | .ifThen _ body => body.TakesOnly
  | .waitIrq => True

/-- The move issues nothing but a FRAMETAKE read, and leaves a program of that kind. -/
def HostMove.TakesOnly : HostMove → Prop
  | .done => True
  | .wait => True
  | .silent c => c.TakesOnly
  | .issue w c => w = takeWord ∧ c.TakesOnly

theorem HostCmd.TakesOnly.move {c : HostCmd} (h : c.TakesOnly) (v : Byte) (irq : Bool) :
    (c.move v irq).TakesOnly := by
  induction c with
  | skip => trivial
  | xact w => exact ⟨h, trivial⟩
  | seq a b iha _ =>
    obtain ⟨ha, hb⟩ := h
    have hmove := iha ha
    rw [HostCmd.move]
    cases hm : a.move v irq with
    | done => exact hb
    | wait => trivial
    | silent a' =>
      rw [hm] at hmove
      exact ⟨hmove, hb⟩
    | issue w a' =>
      rw [hm] at hmove
      exact ⟨hmove.1, hmove.2, hb⟩
  | loopUntil body d _ => exact ⟨h, h⟩
  | repeatN n body _ =>
    cases n with
    | zero => trivial
    | succ n => exact ⟨h, h⟩
  | ifThen d body _ =>
    rw [HostCmd.move]
    cases d.holds v with
    | false => trivial
    | true => exact h
  | waitIrq => cases irq <;> trivial

theorem System.hostTurn_takesOnly {p : System} (h : p.prog.TakesOnly) :
    p.hostTurn.prog.TakesOnly ∧ p.hostTurn.lcre.run = p.lcre.run := by
  have hmove := h.move p.v p.lcre.irq
  cases hm : p.prog.move p.v p.lcre.irq with
  | done => simpa [System.hostTurn, hm] using h
  | wait => simpa [System.hostTurn, hm] using h
  | silent c =>
    rw [System.hostTurn_silent hm]
    rw [hm] at hmove
    exact ⟨hmove, rfl⟩
  | issue w c =>
    rw [hm] at hmove
    obtain ⟨rfl, hc⟩ := hmove
    rw [System.hostTurn_issue hm (exec_takeWord p.lcre)]
    exact ⟨hc, rfl⟩

/-- Outside a reset such a program leaves the scheduler's state alone, and so do ticks. -/
theorem System.runTurns_run_of_takesOnly {p : System} (h : p.prog.TakesOnly) {ts : List Turn}
    (hr : Turn.reset ∉ ts) : (p.runTurns ts).lcre.run = p.lcre.run := by
  induction ts generalizing p with
  | nil => rfl
  | cons t ts ih =>
    rw [List.mem_cons, not_or] at hr
    obtain ⟨ht, hr⟩ := hr
    cases t with
    | reset => exact absurd rfl ht
    | tick => exact (ih (p := p.tickTurn) h hr).trans p.lcre.tick_run
    | host =>
      obtain ⟨hprog, hrun⟩ := System.hostTurn_takesOnly h
      exact (ih hprog hr).trans hrun

theorem framesyncWith_takesOnly {poll : HostCmd} (hpoll : poll = pollFrame ∨ poll = pollFrameIrq)
    (n : Nat) : (framesyncWith poll n).TakesOnly := by
  have hbody : poll.TakesOnly := by
    obtain rfl | rfl := hpoll
    · exact rfl
    · exact ⟨trivial, rfl⟩
  cases n with
  | zero => trivial
  | succ n => exact ⟨rfl, hbody⟩

/-- Settles O57: on an Idle block no read of a poll returns 1, and FRAMETAKE reads arm nothing. -/
theorem framesyncHangsWhileIdle : Obligations.FramesyncHangsWhileIdle := by
  intro poll n s v ts hpoll hn hr hrun p
  refine ⟨fun hend => ?_, ?_⟩
  · exact framesync_never_returns hpoll (ts.length + 1) n hn _ rfl (by exact hrun) ts
      (Nat.lt_succ_self _) hr hend
  · exact (System.runTurns_run_of_takesOnly (framesyncWith_takesOnly hpoll n) hr).trans hrun

end Sys2Proof.Machine

/-! ## Proofs: no fault, the tick first, reset over everything (60_exceptions.md R250, R254, R255) -/

namespace Sys2Proof.Machine

theorem State.serve_completes (s : State) : ∃ t, s.serve = .next t := by
  cases hp : s.port with
  | nil => exact ⟨s, State.serve_nil hp⟩
  | cons w ws =>
    rw [State.serve_cons hp]
    exact exec_completes _ _

theorem Serves.step_completes {s u : State} (hr : s.slot.reset = false) (hu : Serves s u) :
    ∃ t, step s = .next t := by
  rw [hu.step_eq hr]
  exact u.serve_completes

/-- Settles O24, by the cases of a step: each is an equation with a next state, or serves the
port. -/
theorem noStepStops : Obligations.NoStepStops := by
  intro s
  cases hr : s.slot.reset with
  | true => exact ⟨_, step_reset hr⟩
  | false =>
    cases he : s.engine with
    | driving rest =>
      cases rest with
      | cons e rest => exact ⟨_, step_drive hr he⟩
      | nil =>
        cases hs : s.tickPending || s.slot.tick with
        | true => exact ⟨_, step_again hr he hs⟩
        | false => exact Serves.step_completes hr (.ended he hs rfl)
    | quiet =>
      cases hs : s.slot.tick && s.ticking with
      | true =>
        obtain ⟨htick, hrun⟩ := Bool.and_eq_true_iff.1 hs
        exact ⟨_, step_start hr he htick (ticking_iff.1 hrun)⟩
      | false => exact Serves.step_completes hr (.between he hs rfl)

/-- Settles O28: the step begins a tick, which leaves the port as what arrives makes it. -/
theorem tickGoesFirst : Obligations.TickGoesFirst := fun s hr he htick hrun =>
  ⟨s.arrive.beginTick, step_start hr he htick hrun, rfl, rfl, rfl, rfl, rfl, rfl, rfl, rfl⟩

theorem State.ctrlByte_resetWith (p : Params) : (State.resetWith p).ctrlByte = 0x00#8 := by
  simp [State.ctrlByte, State.ticking_eq_decide, State.resetWith]

theorem State.statusByte_resetWith (p : Params) : (State.resetWith p).statusByte = 0x00#8 := by
  simp [State.statusByte, State.irq, State.ticking_eq_decide, State.resetWith]

/-- Settles O48: the step is RESET(), and each register reads its reset value. -/
theorem resetFromAnyState : Obligations.ResetFromAnyState := by
  intro s hr
  refine ⟨s.arrive.doReset, step_reset hr, rfl, State.ctrlByte_resetWith s.params,
    State.statusByte_resetWith s.params, rfl, rfl, rfl, rfl, rfl, fun z y => ?_⟩
  rw [State.peek_rowAddr, ← setWidth_row]
  rfl

end Sys2Proof.Machine
